-- ==== Sys2Proof/Word.lean ====
section
/-! DEFINITION. The plain words the GK416 is described in: bytes, cipher blocks, generations, time-base readings and
the numbers of slots and lanes. -/

namespace Sys2Proof

/-- One byte on a port or in a record. -/
abbrev Byte := BitVec 8

/-- A 16-byte key or cipher block; byte 1 is the most significant byte. -/
abbrev Block := BitVec 128

/-- A generation, counted modulo 4096 (00_scope.md, Conventions). -/
abbrev Gen := BitVec 12

/-- A reading of the 32-bit time base in microseconds (R66). -/
abbrev Time := BitVec 32

/-- The number of one of the 64 key slots (R1). -/
abbrev SlotIx := Fin 64

/-- The number of one of the four lanes. -/
abbrev LaneIx := Fin 4

/-- The number of one of a lane's four session entries (R90). -/
abbrev EntryIx := Fin 4

end Sys2Proof
end

