-- ==== Sys2Proof/Syntax.lean ====
section
/-! DEFINITION. The commands of the GK416: one constructor for each row of spec/opcode_table.json, with the operands of
the row. A port command carries the payload bytes of its request frame as they were clocked in (R174); an event of the
part carries what the array or the outside reports with it. -/

namespace Sys2Proof

/-- The five ports, which are also the five requesters of the dispatch arbiter (R74, R174). -/
inductive Port where
  /-- lane port LP0 to LP3 -/
  | lane (n : LaneIx)
  /-- the site port SP -/
  | site
  deriving DecidableEq, Repr

/-- How a request frame failed at order 1 of R175. -/
inductive FrameFault where
  /-- select released before the check byte -/
  | cutShort
  /-- select released inside a byte of the request -/
  | offBoundary
  /-- a length byte above 64; `checkReached` says whether the master clocked on to the place of the check byte, which
  decides whether a STARTING or DISABLED port answers -/
  | overlong (checkReached : Bool)
  deriving DecidableEq, Repr

/-- The commands, in the order of the table. -/
inductive Instr where
  /-- POWER_ON (R185) -/
  | powerOn
  /-- POWER_LOSS (R159) -/
  | powerLoss
  /-- RST_ASSERT (R185) -/
  | rstAssert
  /-- RST_RELEASE (R185) -/
  | rstRelease
  /-- SOFT_RESET (R184) -/
  | softReset
  /-- STARTUP_END (R176) -/
  | startupEnd
  /-- WPL_CHANGE (R169) -/
  | wplChange (high : Bool)
  /-- FRAME_ERROR (R175) -/
  | frameError (port : Port) (how : FrameFault)
  /-- CHECK_FAIL (R175) -/
  | checkFail (port : Port)
  /-- UNKNOWN_COMMAND (R175) -/
  | unknownCommand (port : Port) (code : Byte)
  /-- SYNC (R177) -/
  | sync (port : Port) (payload : List Byte)
  /-- STATUS (R183) -/
  | status (port : Port) (payload : List Byte)
  /-- SET_EVENTS (R182) -/
  | setEvents (port : Port) (payload : List Byte)
  /-- ACK_EVENTS (R182) -/
  | ackEvents (port : Port) (payload : List Byte)
  /-- SUBMIT (R67) -/
  | submit (lane : LaneIx) (payload : List Byte)
  /-- FETCH (R84) -/
  | fetch (lane : LaneIx) (payload : List Byte)
  /-- JOB_LAPSE (R71) -/
  | jobLapse (lane : LaneIx) (place : Fin 8)
  /-- GRANT (R74) -/
  | grant
  /-- ANSWER_COMPLETION (R93) -/
  | answerCompletion
  /-- VERIFY_COMPLETION (R98) -/
  | verifyCompletion
  /-- SEAL_COMPLETION (R113) -/
  | sealCompletion
  /-- UNWRAP_COMPLETION (R136) -/
  | unwrapCompletion
  /-- SESSION_EXPIRY (R100) -/
  | sessionExpiry (lane : LaneIx) (entry : EntryIx)
  /-- PERMIT (R147) -/
  | permit (payload : List Byte)
  /-- LOAD (R127) -/
  | load (payload : List Byte)
  /-- ERASE_SLOT (R139) -/
  | eraseSlot (payload : List Byte)
  /-- ERASE_BANK (R139) -/
  | eraseBank (payload : List Byte)
  /-- RETIRE (R17) -/
  | retire (payload : List Byte)
  /-- SLOT_INFO (R18) -/
  | slotInfo (payload : List Byte)
  /-- SUSPEND (R155) -/
  | suspend (payload : List Byte)
  /-- RESUME (R156) -/
  | resume (payload : List Byte)
  /-- ADVANCE (R30) -/
  | advance (payload : List Byte)
  /-- ROT_PULSE_END (R32) -/
  | rotPulseEnd
  /-- CANCEL_ROTATION (R37) -/
  | cancelRotation (payload : List Byte)
  /-- ROTATION_TIMER_EXPIRY (R35) -/
  | rotationTimerExpiry
  /-- SET_ROTATION (R38) -/
  | setRotation (payload : List Byte)
  /-- SET_WINDOW (R39) -/
  | setWindow (payload : List Byte)
  /-- SET_GEOMETRY (R41) -/
  | setGeometry (payload : List Byte)
  /-- SET_CURRENT (R43) -/
  | setCurrent (payload : List Byte)
  /-- SET_COUNTER (R121) -/
  | setCounter (payload : List Byte)
  /-- SET_SESSION_LIFE (R101) -/
  | setSessionLife (payload : List Byte)
  /-- SET_PROTECT_VOLATILE (R166) -/
  | setProtectVolatile (payload : List Byte)
  /-- SET_PROTECT_NV (R167) -/
  | setProtectNv (payload : List Byte)
  /-- LOCK_AREA (R168) -/
  | lockArea (payload : List Byte)
  /-- SET_FREEZE (R170) -/
  | setFreeze (payload : List Byte)
  /-- SET_SITE (R178) -/
  | setSite (payload : List Byte)
  /-- SET_LANES (R178) -/
  | setLanes (payload : List Byte)
  /-- SET_PORT_MONITOR (R179) -/
  | setPortMonitor (payload : List Byte)
  /-- READ_COUNTS (R181) -/
  | readCounts (payload : List Byte)
  /-- CLEAR_COUNTS (R181) -/
  | clearCounts (payload : List Byte)
  /-- RESET_ARM (R184) -/
  | resetArm (payload : List Byte)
  /-- RESET (R184) -/
  | reset (payload : List Byte)
  /-- PROGRAM_COMPLETE (R9) -/
  | programComplete (verified : Bool)
  /-- ERASE_COMPLETE (R12) -/
  | eraseComplete (failed : List SlotIx)
  /-- SET_ROTATION_COMPLETE (R38) -/
  | setRotationComplete (verified : Bool)
  /-- SET_WINDOW_COMPLETE (R40) -/
  | setWindowComplete (verified : Bool)
  /-- SET_GEOMETRY_COMPLETE (R42) -/
  | setGeometryComplete (verified : Bool)
  /-- SET_PROTECT_NV_COMPLETE (R167) -/
  | setProtectNvComplete (verified : Bool)
  /-- LOCK_AREA_COMPLETE (R168) -/
  | lockAreaComplete (recordVerified cellVerified : Bool)
  /-- SET_FREEZE_COMPLETE (R170) -/
  | setFreezeComplete (verified : Bool)
  /-- SET_SITE_COMPLETE (R178) -/
  | setSiteComplete (verified : Bool)
  /-- SET_LANES_COMPLETE (R178) -/
  | setLanesComplete (verified : Bool)
  /-- SET_CURRENT_COMPLETE (R44) -/
  | setCurrentComplete (verified : Bool)
  /-- SET_COUNTER_COMPLETE (R123) -/
  | setCounterComplete (verified : Bool)
  /-- GEN_RECORD_COMPLETE (R45) -/
  | genRecordComplete (verified : Bool)
  /-- RESERVATION_COMPLETE (R118) -/
  | reservationComplete (verified : Bool)
  /-- RETIRE_MARK_COMPLETE (R14) -/
  | retireMarkComplete (verified : Bool)
  /-- INTERNAL_WRITE_START (R152) -/
  | internalWriteStart
  /-- ARRAY_AT_REST (R146) -/
  | arrayAtRest
  deriving DecidableEq, Repr

end Sys2Proof
end

