-- ==== Sys2Proof/Decode.lean ====
section
/-! DEFINITION. The command that a numbered word spells. No row of spec/opcode_table.json has bits, so no word spells a
command; the request frames of the ports are read in Machine/Frames.lean. -/

namespace Sys2Proof

/-- The table gives no row any bits: every word is refused. -/
def decodeTableWord (_nbits _w : Nat) : Option Instr := none

end Sys2Proof
end

