-- ==== Sys2Proof/Config.lean ====
section
/-! DEFINITION. What the part fixes (durations, limits, the factory values' numbers) and the FREE VALUES of the model:
constants without a body, of which nothing can be proved, for every value the spec leaves open. -/

namespace Sys2Proof.Config

/-- FREE VALUE (assumption 4). The `k`-th draw of the random source: a reader nonce of 8 bytes (00_scope.md, The cipher; R92). -/
opaque readerNonce : Nat → BitVec 64

/-- FREE VALUE (assumption 5). Whether a retire-mark write that was cut off or failed, the `k`-th such draw, has left the new marker
in the record of slot `i` (R14, R154, R159). -/
opaque markLanded : Nat → Nat → Bool

/-- FREE VALUE (assumption 6). Whether a LOCK_AREA write that was cut off, the `k`-th such draw, has left the lock cell written
(R150, R168). -/
opaque cellLanded : Nat → Bool

/-- The fields of the site STATUS frame for which the spec states no value. -/
inductive Unstated where
  /-- origin byte while no operation is active -/
  | originWhenIdle
  /-- remaining µs of the active operation while no operation is active -/
  | remainingWhenIdle
  /-- remaining µs of a LOAD in PREPARING, which has no duration (R145) -/
  | remainingPreparing
  /-- held-by byte while nothing is held -/
  | heldByWhenNone
  /-- remaining µs of the held operation while nothing is held -/
  | remainingWhenNone
  deriving DecidableEq, Repr

/-- FREE VALUE (assumption 7). The value sent in a STATUS field for which the spec states none (R183, R186). -/
opaque unstated : Unstated → Nat

/-! Durations of the write engine's operations in µs (R145). -/

def programTime : Nat := 3000
def eraseSlotTime : Nat := 18000
def eraseBankTime : Nat := 55000
def settingsTime : Nat := 6000
def recordTime : Nat := 1000
/-- The array comes to rest this many µs after a suspension (R146). -/
def restTime : Nat := 20
/-- A SUSPEND is refused TOO_SOON within this many µs of the last RESUME (R155). -/
def resumeGuard : Nat := 200
/-- ROT is high for this many µs from an advance (R32). -/
def rotTime : Nat := 2
/-- Start-up lasts this many µs (R185). -/
def startupTime : Nat := 4000

/-! Engine occupancy in tenths of a µs (R79). -/

def handlingTenths : Nat := 4
def blockTenths : Nat := 8

/-! Limits. -/

/-- Jobs a lane's job queue holds (R70). -/
def jobRoom : Nat := 8
/-- Results a lane's result queue holds (R83). -/
def resultRoom : Nat := 8
/-- Entries the tag key cache holds (R56). -/
def cacheRoom : Nat := 32
/-- The highest value of `next` and `limit`; never issued (R115, R116). -/
def counterTop : Nat := 4294967295
/-- How far a reservation or SET_COUNTER lifts the limit (R117, R121). -/
def reserveStep : Nat := 4096
/-- The low-water distance of the receipt counter (R117). -/
def lowWater : Nat := 1024
/-- The longest payload a length byte may name (R175). -/
def payloadMax : Nat := 64

end Sys2Proof.Config
end

