-- ==== Sys2Proof/Machine/State.lean ====
section
/-! DEFINITION. The state of the GK416 as plain data, block by block, the reasons a command could stop, and the state
after reset. Every field cites the rule that names it. -/

namespace Sys2Proof.Machine

/-! ## Stops -/

/-- The faults of the machine. There are none: the part has no trap, and whatever goes wrong in it is a response, a
result code, an event flag, a slot state or a note, each of which is a next state. -/
inductive Fault where
  deriving DecidableEq, Repr

/-- The refusals of the machine. -/
inductive Refusal where
  /-- A command without a meaning, named by its mnemonic. No arm of `exec` answers with it. Stopping there would be
  safe: nothing is claimed about the command. -/
  | notModelled (mnemonic : String)
  deriving DecidableEq, Repr

/-! ## Key slots (chapter 1) -/

/-- The six slot states of section 1.3. -/
inductive SlotState where
  | blank | programming | loaded | retired | erasing | damaged
  deriving DecidableEq, Repr

/-- What a key may be used for (R3, R4). -/
inductive Usage where
  | tagRoot | receipt | transport
  deriving DecidableEq, Repr

/-- The three areas of the key store (R1). -/
inductive Area where
  | head | ring | tail
  deriving DecidableEq, Repr

/-- The two fixed areas, as SET_PROTECT and LOCK_AREA name them (R1, R165). -/
inductive FixedArea where
  | head | tail
  deriving DecidableEq, Repr

/-- The sizes of the head area and of the ring; the tail area has the rest of the 64 slots (R1). -/
structure Geometry where
  /-- H -/
  head : Nat
  /-- N -/
  ring : Nat
  deriving DecidableEq, Repr

/-- The fields a slot record has while PROGRAMMING, LOADED or RETIRED (R3). Bit `n` of the lane mask is lane `n`. -/
structure SlotFields where
  /-- present for a ring slot only -/
  generation : Option Gen
  usage : Usage
  laneMask : BitVec 4
  checkValue : BitVec 24
  deriving DecidableEq, Repr

/-- A slot record of the working image (R3). The key is zero while the fields are absent (zeroised). -/
structure Slot where
  state : SlotState
  fields : Option SlotFields
  key : Block
  /-- the slot is in the retire-mark set (R14) -/
  markPending : Bool
  deriving DecidableEq, Repr

/-- The marker of an NV slot record (R7). -/
inductive Marker where
  | erased | programBegun | programEnded | retireMarked | eraseBegun
  deriving DecidableEq, Repr

/-- An NV slot record as it reads (R7): the marker, the other fields where written, and whether the record check is
good. -/
structure NvSlot where
  marker : Marker
  fields : Option SlotFields
  key : Block
  checkGood : Bool
  deriving DecidableEq, Repr

/-- How one of the three single NV records reads at start-up (R47, R124, R160). -/
inductive NvRecord (α : Type) where
  /-- every cell erased -/
  | erased
  /-- its record check fails -/
  | damaged
  /-- its record check is good -/
  | good (value : α)
  deriving DecidableEq, Repr

/-- The items of the settings record (R149). -/
structure Settings where
  geometry : Geometry
  /-- B -/
  back : Nat
  /-- A -/
  ahead : Nat
  /-- P, in seconds -/
  period : Nat
  headProtect : Bool
  tailProtect : Bool
  freeze : Bool
  siteCode : BitVec 16
  laneEnable : BitVec 4
  deriving DecidableEq, Repr

/-- The items of the generation record (R45). -/
structure GenRecord where
  live : Bool
  c : Gen
  h : Nat
  deriving DecidableEq, Repr

/-- The non-volatile array: what survives every reset and every loss of power. -/
structure NvArray where
  slots : Vector NvSlot 64
  settings : NvRecord Settings
  generation : NvRecord GenRecord
  /-- the limit it holds (R115) -/
  counter : NvRecord Nat
  /-- lock cell of the head area, written or not (R150) -/
  headCell : Bool
  /-- lock cell of the tail area, written or not (R150) -/
  tailCell : Bool
  deriving DecidableEq, Repr

/-- The key store: the geometry in force and the working image (R2, R3). -/
structure KeyStore where
  geometry : Geometry
  slots : Vector Slot 64
  deriving DecidableEq, Repr

/-! ## Generation controller (chapter 2) -/

/-- The state of R22, but for the generation-record request, which the write engine holds. -/
structure Ring where
  /-- ring state LIVE, otherwise UNSET -/
  live : Bool
  /-- C -/
  c : Gen
  /-- head offset -/
  h : Nat
  /-- B -/
  back : Nat
  /-- A -/
  ahead : Nat
  /-- P, in seconds -/
  period : Nat
  /-- seconds left before the rotation timer expires -/
  remaining : Nat
  /-- µs elapsed of the second in progress (R34) -/
  secondRun : Nat
  rotationPending : Bool
  deriving DecidableEq, Repr

/-! ## Codes and jobs (chapters 4 and 10) -/

/-- The status, result and outcome codes, which share one space (R186). -/
inductive Code where
  | ok | accepted | queued | noResult
  | starting | notSynced | portHalted | portDisabled | identityMismatch | checkFail | unknownCommand | badLength
  | noPermit | busy | suspended | areaProtected | locked | frozen | badArgument | badArea | resetNotArmed
  | badSlot | badPosition | ringUnset | notBlank | badUsage | manifestMismatch | notLoaded | inService
  | nextNotLoaded | notPending | windowConflict | badGeometry | ringInUse | areaInUse | ringLive | genMissing
  | counterBelow | notSuspendable | alreadySuspended | tooSoon | notSuspended | badKind | queueFull
  | pass | fail | expired | noGeneration | tooOld | tooNew | genRetired | laneDenied
  | sessionUnknown | sessionState | badKeySlot | counterUnset | counterExhausted
  | programOk | loadedStale | programFail | kcvMismatch | transportGone
  | eraseOk | eraseFail | settingsOk | settingsFail | recordOk | recordFail
  deriving DecidableEq, Repr

/-- The fields of an ANSWER job (R69). The generation field is as carried; its lower twelve bits count (R50). -/
structure AnswerJob where
  tagId : BitVec 64
  generation : BitVec 16
  nt : BitVec 64
  deriving DecidableEq, Repr

/-- The fields of a VERIFY job (R69). -/
structure VerifyJob where
  handle : Byte
  mac : BitVec 64
  deriving DecidableEq, Repr

/-- The fields of a SEAL job (R69). -/
structure SealJob where
  handle : Byte
  receiptSlot : Byte
  toll : Block
  deriving DecidableEq, Repr

/-- The job kinds. -/
inductive JobKind where
  | answer | verify | seal
  deriving DecidableEq, Repr

/-- The kind of a job with the fields of that kind. -/
inductive JobBody where
  | answer (job : AnswerJob)
  | verify (job : VerifyJob)
  | seal (job : SealJob)
  deriving DecidableEq, Repr

/-- The job record of R69. -/
structure Job where
  jobTag : Byte
  /-- as clamped under R68; 0 means no deadline -/
  budget : Nat
  arrival : Time
  lapsed : Bool
  body : JobBody
  deriving DecidableEq, Repr

/-- The optional fields of a result (R82). -/
inductive ResultExtra where
  | none
  | answer (handle : Byte) (nr : BitVec 64) (proof : BitVec 64)
  | seal (number : Nat) (tag : BitVec 64)
  deriving DecidableEq, Repr

/-- The result record of R82. -/
structure Result where
  jobTag : Byte
  kind : JobKind
  code : Code
  extra : ResultExtra
  deriving DecidableEq, Repr

/-! ## Sessions and the cache (chapters 3 and 5) -/

/-- An open session (R90). -/
structure Session where
  /-- state VERIFIED, otherwise ANSWERED -/
  verified : Bool
  tagId : BitVec 64
  generation : Gen
  kt : Block
  nt : BitVec 64
  nr : BitVec 64
  opened : Time
  deriving DecidableEq, Repr

/-- A session entry: its serial, and its session unless it is FREE (R90). -/
structure Entry where
  serial : BitVec 6
  session : Option Session
  deriving DecidableEq, Repr

/-- An entry of the tag key cache (R56). -/
structure CacheEntry where
  tagId : BitVec 64
  generation : Gen
  kt : Block
  deriving DecidableEq, Repr

/-! ## Ports (chapter 10) -/

/-- The port states (R176). -/
inductive PortState where
  | starting | resync | ready | halted | disabled
  deriving DecidableEq, Repr

/-- A response: its status and its payload (R174). -/
structure Response where
  status : Code
  payload : List Byte
  deriving DecidableEq, Repr

/-- What every port has: its state, its three error counters (R180), and the response of its last transaction, none
while data-out carries FFh throughout. -/
structure PortUnit where
  state : PortState
  checkCount : Byte
  frameCount : Byte
  commandCount : Byte
  response : Option Response
  deriving DecidableEq, Repr

/-- A lane: its port and its lane context (R70, R78, R83, R90). Flags and enables stand in the bit order of R186; bit 0 of
`flags` is not used, since RESULT is a level computed from the result queue (R83). -/
structure Lane where
  port : PortUnit
  flags : BitVec 4
  enables : BitVec 4
  /-- job queue, head first -/
  jobs : List Job
  /-- result queue, head first -/
  results : List Result
  counterWait : Bool
  sessions : Vector Entry 4
  deriving DecidableEq, Repr

/-- The site port (R182, R184). Flags and enables stand in the bit order of R186. -/
structure Site where
  port : PortUnit
  flags : BitVec 7
  enables : BitVec 7
  /-- the reset-arm flag -/
  resetArm : Bool
  /-- a RESET has been accepted and its soft reset begins at the release of the site select -/
  resetTaken : Bool
  deriving DecidableEq, Repr

/-- The port monitor settings (R179). A mode is WRAP when true, HOLD when false. -/
structure Monitor where
  checkWrap : Bool
  frameWrap : Bool
  commandWrap : Bool
  threshold : Byte
  haltCheck : Bool
  haltFrame : Bool
  haltCommand : Bool
  deriving DecidableEq, Repr

/-! ## Receipt counter (chapter 6) -/

/-- The counter states. -/
inductive CounterState where
  | unset | running | exhausted
  deriving DecidableEq, Repr

/-- The receipt counter (R115). -/
structure Counter where
  state : CounterState
  next : Nat
  limit : Nat
  /-- reservation in progress -/
  reserving : Bool
  /-- SET_COUNTER in progress -/
  setting : Bool
  deriving DecidableEq, Repr

/-! ## Loads and the NV write engine (chapters 7 and 8) -/

/-- The payload fields an accepted LOAD carries (R133). The generation is present for a RING target; no transport slot
means a plaintext commissioning load. -/
structure Load where
  slot : SlotIx
  generation : Option Gen
  usage : Usage
  laneMask : BitVec 4
  transport : Option SlotIx
  wrapped : Block
  iv : Block
  kcv : BitVec 24
  deriving DecidableEq, Repr

/-- The operations that can be held: programs and erases (R143, R144). -/
inductive SlotOp where
  | program (slot : SlotIx)
  | eraseSlot (slot : SlotIx)
  | eraseBank (bank : Fin 8)
  deriving DecidableEq, Repr

/-- The settings commands (R149). -/
inductive SettingsCommand where
  /-- SET_GEOMETRY, with the C0 it writes into the generation record -/
  | geometry (c0 : Gen)
  | window
  | rotation
  | protect (area : FixedArea)
  | lock (area : FixedArea)
  | freeze
  | site
  | lanes
  deriving DecidableEq, Repr

/-- The operations of R145. -/
inductive Operation where
  /-- a LOAD in PREPARING -/
  | load (load : Load)
  | slotOp (op : SlotOp)
  /-- a settings write, carrying the settings record as it will stand -/
  | settings (command : SettingsCommand) (record : Settings)
  /-- the generation-record write of SET_CURRENT: the chosen slot and the target values -/
  | setCurrent (slot : SlotIx) (c : Gen) (h : Nat)
  /-- the counter-record write of SET_COUNTER -/
  | setCounter (base limit : Nat)
  /-- an internal counter-record write -/
  | reservation (limit : Nat) (retry : Bool)
  /-- an internal generation-record write, with the values it took -/
  | genRecord (c : Gen) (h : Nat) (retry : Bool)
  /-- an internal retire-mark write, with the slots it took -/
  | retireMarks (slots : List SlotIx) (retry : Bool)
  deriving DecidableEq, Repr

/-- The active operation and its remaining time in µs (R143). A LOAD in PREPARING has no duration. -/
structure ActiveOp where
  op : Operation
  remaining : Nat
  deriving DecidableEq, Repr

/-- Who paused the held operation (R143). -/
inductive HeldBy where
  | site | auto
  deriving DecidableEq, Repr

/-- The held operation (R143). -/
structure HeldOp where
  op : SlotOp
  remaining : Nat
  by_ : HeldBy
  deriving DecidableEq, Repr

/-- An outstanding counter-record request (R117). -/
structure CounterRequest where
  limit : Nat
  retry : Bool
  deriving DecidableEq, Repr

/-- An outstanding generation-record request (R45). -/
structure GenRequest where
  c : Gen
  h : Nat
  retry : Bool
  deriving DecidableEq, Repr

/-- The kinds of outcome (R158). -/
inductive OutcomeKind where
  | program | erase | settings | genRecord | counterRecord
  deriving DecidableEq, Repr

/-- An operation or outcome target (R186). -/
inductive Target where
  | slot (i : SlotIx)
  | bank (k : Fin 8)
  | command (c : SettingsCommand)
  | none
  deriving DecidableEq, Repr

/-- The last-outcome record (R158). -/
structure OutcomeRecord where
  kind : OutcomeKind
  target : Target
  code : Code
  deriving DecidableEq, Repr

/-- The record fault set (R143). -/
structure FaultSet where
  settings : Bool
  generation : Bool
  counter : Bool
  retireMarks : Bool
  deriving DecidableEq, Repr

/-- The NV write engine (R143). Whether a retire-mark request is outstanding follows from the retire-mark set (R14); its
retry mark is held here. -/
structure WriteEngine where
  active : Option ActiveOp
  held : Option HeldOp
  permit : Bool
  counterRequest : Option CounterRequest
  genRequest : Option GenRequest
  retireRetry : Bool
  lastOutcome : Option OutcomeRecord
  lastResume : Option Time
  faults : FaultSet
  /-- µs until the array is at rest after a suspension (R146) -/
  restLeft : Nat
  deriving DecidableEq, Repr

/-! ## Cipher engine (chapter 3) -/

/-- The work of the work record with the items R49, R92 and R111 give it. -/
inductive Task where
  /-- an ANSWER ended by resolution with the code given (R52) -/
  | answerEnded (jobTag : Byte) (job : AnswerJob) (code : Code)
  /-- an ANSWER whose resolution passed: the resolved slot, Kg, the lookup outcome (HIT when true), Kt, Nr and P -/
  | answer (jobTag : Byte) (job : AnswerJob) (slot : SlotIx) (kg : Block) (hit : Bool) (kt : Block)
      (nr proof : BitVec 64)
  /-- a VERIFY with the copies of its session's Kt, Nt and Nr -/
  | verify (jobTag : Byte) (job : VerifyJob) (kt : Block) (nt nr : BitVec 64)
  /-- a SEAL with the tag ID and generation of its session, its receipt number and Kr -/
  | seal (jobTag : Byte) (job : SealJob) (tagId : BitVec 64) (generation : Gen) (number : Nat) (kr : Block)
  /-- the unwrap of a LOAD; Kx is absent for a plaintext load -/
  | unwrap (load : Load) (kx : Option Block)
  deriving DecidableEq, Repr

/-- The work record (R49), with the detached mark of R86 and the occupancy still to run in tenths of a µs (R79). -/
structure Work where
  requester : Port
  detached : Bool
  left : Nat
  task : Task
  deriving DecidableEq, Repr

/-- The cipher engine and the arbiter's last granted requester (R49, R74). -/
structure Cipher where
  work : Option Work
  lastGranted : Port
  deriving DecidableEq, Repr

/-! ## Protection (chapter 9) -/

/-- What R162 holds for each fixed area. -/
structure AreaProtection where
  nv : Bool
  overlayValid : Bool
  overlay : Bool
  lock : Bool
  deriving DecidableEq, Repr

/-- The protection unit (R162). The WPL level is that of the line (high when true). -/
structure Protection where
  head : AreaProtection
  tail : AreaProtection
  freeze : Bool
  wpl : Bool
  deriving DecidableEq, Repr

/-! ## The whole part -/

/-- Whether the part is powered, held in reset, starting up or running (R185). -/
inductive Power where
  | off | held | starting | running
  deriving DecidableEq, Repr

/-- The time base and the clocks that run beside it (R32, R66, R185). -/
structure Clock where
  time : Time
  /-- tenths of a µs inside the present µs -/
  tenths : Nat
  /-- µs of start-up still to run -/
  startupLeft : Nat
  /-- µs for which ROT stays high -/
  rotLeft : Nat
  deriving DecidableEq, Repr

/-- The start-up notes and the start-up kind (R21, R47, R160, R183). -/
structure Notes where
  slotsDamaged : Bool
  genRecordLost : Bool
  settingsLost : Bool
  /-- start-up kind SOFT, otherwise HARD -/
  soft : Bool
  deriving DecidableEq, Repr

/-- The state of the part, with the queue of the commands that are waiting. -/
structure State where
  power : Power
  /-- RST is active: the line is held at its reset level (R185) -/
  rst : Bool
  clock : Clock
  array : NvArray
  store : KeyStore
  ring : Ring
  lanes : Vector Lane 4
  site : Site
  cipher : Cipher
  cache : List CacheEntry
  counter : Counter
  engine : WriteEngine
  protection : Protection
  siteCode : BitVec 16
  laneEnable : BitVec 4
  monitor : Monitor
  /-- L, in ms (R101) -/
  sessionLife : Nat
  notes : Notes
  /-- how many free values have been drawn (the model's own) -/
  draws : Nat
  /-- the commands waiting, first in first out (the model's own) -/
  pending : List Instr
  deriving DecidableEq, Repr

/-! ## Reset values -/

/-- A slot that holds nothing. -/
def Slot.empty : Slot := { state := .blank, fields := none, key := 0, markPending := false }

/-- An NV slot record every cell of which is erased. -/
def NvSlot.empty : NvSlot := { marker := .erased, fields := none, key := 0, checkGood := true }

/-- The factory settings (00_scope.md, Factory State). -/
def Settings.factory : Settings :=
  { geometry := { head := 8, ring := 48 }, back := 2, ahead := 1, period := 0, headProtect := false,
    tailProtect := false, freeze := false, siteCode := 0, laneEnable := 0xF }

/-- The array of a part that leaves the factory (R21, R47, R124, R149). -/
def NvArray.factory : NvArray :=
  { slots := Vector.replicate 64 NvSlot.empty, settings := .good Settings.factory,
    generation := .good { live := true, c := 0, h := 0 }, counter := .erased, headCell := false, tailCell := false }

/-- The port monitor settings after power-on (R179). -/
def Monitor.initial : Monitor :=
  { checkWrap := false, frameWrap := false, commandWrap := false, threshold := 16, haltCheck := true,
    haltFrame := true, haltCommand := true }

/-- A port at the beginning of start-up (R176, R180). -/
def PortUnit.initial : PortUnit :=
  { state := .starting, checkCount := 0, frameCount := 0, commandCount := 0, response := none }

/-- A lane at the beginning of start-up (R88, R90, R182). -/
def Lane.initial : Lane :=
  { port := PortUnit.initial, flags := 0, enables := 0, jobs := [], results := [], counterWait := false,
    sessions := Vector.replicate 4 { serial := 0, session := none } }

/-- An area without protection, overlay or lock (R162). -/
def AreaProtection.clear : AreaProtection := { nv := false, overlayValid := false, overlay := false, lock := false }

/-- The part right after reset: a factory part at the moment start-up begins, at power-on or the release of RST (R185,
assumption 9). The counter record is erased, so the counter is UNSET with COUNTER set and COUNTER in the record fault set
(R124, R160). -/
def State.reset : State :=
  { power := .starting
    rst := false
    clock := { time := 0, tenths := 0, startupLeft := Config.startupTime, rotLeft := 0 }
    array := NvArray.factory
    store := { geometry := Settings.factory.geometry, slots := Vector.replicate 64 Slot.empty }
    ring := { live := true, c := 0, h := 0, back := 2, ahead := 1, period := 0, remaining := 0, secondRun := 0,
              rotationPending := false }
    lanes := Vector.replicate 4 Lane.initial
    site := { port := PortUnit.initial, flags := 0x10, enables := 0x7F, resetArm := false, resetTaken := false }
    cipher := { work := none, lastGranted := .site }
    cache := []
    counter := { state := .unset, next := 0, limit := 0, reserving := false, setting := false }
    engine := { active := none, held := none, permit := false, counterRequest := none, genRequest := none,
                retireRetry := false, lastOutcome := none, lastResume := none,
                faults := { settings := false, generation := false, counter := true, retireMarks := false },
                restLeft := 0 }
    protection := { head := AreaProtection.clear, tail := AreaProtection.clear, freeze := false, wpl := false }
    siteCode := 0
    laneEnable := 0xF
    monitor := Monitor.initial
    sessionLife := 40
    notes := { slotsDamaged := false, genRecordLost := false, settingsLost := false, soft := false }
    draws := 0
    pending := [] }

end Sys2Proof.Machine
end

