-- ==== Sys2Proof/Machine/Flags.lean ====
section
/-! DEFINITION. Event flags, enables and the attention lines (R182), the error counters and the halt (R180), and the reads
and writes of ports and lanes that they use. -/

namespace Sys2Proof.Machine

/-! ## Ports and lanes -/

/-- Lane `l`. -/
def State.lane (s : State) (l : LaneIx) : Lane := s.lanes[l]

/-- Put lane `l`. -/
def State.setLane (l : LaneIx) (x : Lane) (s : State) : State := { s with lanes := s.lanes.set l x }

/-- Change every lane alike. -/
def State.mapLanes (f : Lane → Lane) (s : State) : State := { s with lanes := Vector.ofFn fun l => f s.lanes[l] }

/-- Change every lane, each by its own number. -/
def State.mapLanesAt (f : LaneIx → Lane → Lane) (s : State) : State :=
  { s with lanes := Vector.ofFn fun l => f l s.lanes[l] }

/-- The port unit of a port. -/
def State.port (s : State) : Port → PortUnit
  | .lane l => (s.lane l).port
  | .site => s.site.port

/-- Put the port unit of a port. -/
def State.setPort (p : Port) (x : PortUnit) (s : State) : State :=
  match p with
  | .lane l => s.setLane l { s.lane l with port := x }
  | .site => { s with site := { s.site with port := x } }

/-- The port's response of this transaction, none when nothing is answered (R174). -/
def State.answer (p : Port) (r : Option Response) (s : State) : State := s.setPort p { s.port p with response := r }

/-- A lane port is DISABLED. -/
def Lane.disabled (x : Lane) : Bool := x.port.state == .disabled

/-! ## Event flags -/

/-- The event flags of a lane (R182). -/
inductive LaneFlag where
  | result | rotated | ringChanged | sessionLost
  deriving DecidableEq, Repr

/-- The bit of a lane flag (R186). -/
def LaneFlag.bit : LaneFlag → BitVec 4
  | .result => 1
  | .rotated => 2
  | .ringChanged => 4
  | .sessionLost => 8

/-- The event flags of the site port (R182). -/
inductive SiteFlag where
  | nvDone | nvFailed | rotated | rotateLate | counter | port | started
  deriving DecidableEq, Repr

/-- The bit of a site flag (R186). -/
def SiteFlag.bit : SiteFlag → BitVec 7
  | .nvDone => 1
  | .nvFailed => 2
  | .rotated => 4
  | .rotateLate => 8
  | .counter => 16
  | .port => 32
  | .started => 64

/-- Set a lane flag; on a DISABLED lane port no flag is set (R182). -/
def Lane.flag (f : LaneFlag) (x : Lane) : Lane := if x.disabled then x else { x with flags := x.flags ||| f.bit }

/-- Set a flag on every lane port that is not DISABLED (R33). -/
def State.flagLanes (f : LaneFlag) (s : State) : State := s.mapLanes fun x => x.flag f

/-- Set a flag of the site port (R182). -/
def State.flagSite (f : SiteFlag) (s : State) : State :=
  { s with site := { s.site with flags := s.site.flags ||| f.bit } }

/-- The flags of a lane as they read: RESULT is set while the result queue is not empty (R83), the others as stored. -/
def Lane.flagsRead (x : Lane) : BitVec 4 :=
  if x.results.isEmpty then x.flags &&& 0xE else x.flags ||| 0x1

/-- ATTN of a port: high while any flag is both set and enabled, low during start-up, in reset and without power
(R182, R185). -/
def State.attention (s : State) (p : Port) : Bool :=
  s.power == .running &&
  match p with
  | .lane l => (s.lane l).flagsRead &&& (s.lane l).enables != 0
  | .site => s.site.flags &&& s.site.enables != 0

/-- The ROT output: high while its pulse runs (R32). -/
def State.rotHigh (s : State) : Bool := decide (0 < s.clock.rotLeft)

/-! ## Error counters -/

/-- The three error kinds (R175). -/
inductive ErrorKind where
  | check | frame | command
  deriving DecidableEq, Repr

/-- A port's counter of a kind. -/
def PortUnit.count (x : PortUnit) : ErrorKind → Byte
  | .check => x.checkCount
  | .frame => x.frameCount
  | .command => x.commandCount

/-- Put a port's counter of a kind. -/
def PortUnit.setCount (k : ErrorKind) (n : Byte) (x : PortUnit) : PortUnit :=
  match k with
  | .check => { x with checkCount := n }
  | .frame => { x with frameCount := n }
  | .command => { x with commandCount := n }

/-- All three counters at 0. -/
def PortUnit.clearCounts (x : PortUnit) : PortUnit := { x with checkCount := 0, frameCount := 0, commandCount := 0 }

/-- The mode of a kind is WRAP (R179). -/
def Monitor.wraps (m : Monitor) : ErrorKind → Bool
  | .check => m.checkWrap
  | .frame => m.frameWrap
  | .command => m.commandWrap

/-- The kind is in the halt mask (R179). -/
def Monitor.halts (m : Monitor) : ErrorKind → Bool
  | .check => m.haltCheck
  | .frame => m.haltFrame
  | .command => m.haltCommand

/-- The increment of a counter: HOLD stays at 255, WRAP passes to 0 (R180). -/
def Monitor.bump (m : Monitor) (k : ErrorKind) (n : Byte) : Byte := if n = 255 ∧ m.wraps k = false then 255 else n + 1

/-- The state of a port that is halted: RESYNC and READY enter HALTED (R180). -/
def PortState.halt : PortState → PortState
  | .resync => .halted
  | .ready => .halted
  | other => other

/-- An increment that makes the counter equal to the threshold halts the port when its kind is in the halt mask; a counter
held at 255 is not made equal to anything (R180). -/
def Monitor.reaches (m : Monitor) (k : ErrorKind) (n : Byte) : Bool :=
  m.halts k && m.bump k n != n && m.bump k n == m.threshold

/-- Count an error on a port (R180). -/
def State.countError (p : Port) (k : ErrorKind) (s : State) : State :=
  let x := s.port p
  let counted := x.setCount k (s.monitor.bump k (x.count k))
  if s.monitor.reaches k (x.count k) then
    (s.setPort p { counted with state := counted.state.halt }).flagSite .port
  else s.setPort p counted

end Sys2Proof.Machine
end

