-- ==== Sys2Proof/Machine/Cipher.lean ====
section
/-! DEFINITION. The block cipher E(K, X): AES-128 in the encryption direction (00_scope.md, The cipher). The manual names the
cipher and treats it as a fixed function; its tables and rounds are taken from the published standard (assumption 8). A
block is held as a list of 16 bytes, byte 1 first. -/

namespace Sys2Proof.Machine

/-- The substitution table, entry 0 first, as one number of 256 bytes. -/
def sboxTable : Nat :=
  0x637c777bf26b6fc53001672bfed7ab76ca82c97dfa5947f0add4a2af9ca472c0b7fd9326363ff7cc34a5e5f171d8311504c723c31896059a071280e2eb27b27509832c1a1b6e5aa0523bd6b329e32f8453d100ed20fcb15b6acbbe394a4c58cfd0efaafb434d338545f9027f503c9fa851a3408f929d38f5bcb6da2110fff3d2cd0c13ec5f974417c4a77e3d645d197360814fdc222a908846eeb814de5e0bdbe0323a0a4906245cc2d3ac629195e479e7c8376d8dd54ea96c56f4ea657aae08ba78252e1ca6b4c6e8dd741f4bbd8b8a703eb5664803f60e613557b986c11d9ee1f8981169d98e949b1e87e9ce5528df8ca1890dbfe6426841992d0fb054bb16

/-- The substitution of one byte. -/
def subByte (b : Byte) : Byte := BitVec.ofNat 8 (sboxTable >>> (8 * (255 - b.toNat)))

/-- Multiplication by 2 in the field of the cipher. -/
def xtime (b : Byte) : Byte := if b.msb then (b <<< 1) ^^^ 0x1B else b <<< 1

/-- The bytes of a block in the order that the row shift gives them. -/
def rowShift (b : List Byte) : List Byte :=
  [0, 5, 10, 15, 4, 9, 14, 3, 8, 13, 2, 7, 12, 1, 6, 11].map fun i => b.getD i 0

/-- The column mixing, column by column. -/
def mixColumns : List Byte → List Byte
  | a :: b :: c :: d :: rest =>
    (xtime a ^^^ xtime b ^^^ b ^^^ c ^^^ d) :: (a ^^^ xtime b ^^^ xtime c ^^^ c ^^^ d) ::
    (a ^^^ b ^^^ xtime c ^^^ xtime d ^^^ d) :: (xtime a ^^^ a ^^^ b ^^^ c ^^^ xtime d) :: mixColumns rest
  | _ => []

/-- Byte by byte exclusive or. -/
def xorBytes (a b : List Byte) : List Byte := List.zipWith (· ^^^ ·) a b

/-- The next round key, given the round constant. -/
def nextRoundKey (constant : Byte) (k : List Byte) : List Byte :=
  let at_ := fun i => k.getD i 0
  let t := [subByte (at_ 13) ^^^ constant, subByte (at_ 14), subByte (at_ 15), subByte (at_ 12)]
  let w0 := xorBytes (k.take 4) t
  let w1 := xorBytes ((k.drop 4).take 4) w0
  let w2 := xorBytes ((k.drop 8).take 4) w1
  let w3 := xorBytes (k.drop 12) w2
  w0 ++ w1 ++ w2 ++ w3

/-- The rounds from a given state: each substitutes, shifts the rows, mixes the columns except in the last round, and adds
its round key. -/
def cipherRounds : List Byte → List Byte → List Byte → List Byte
  | [], _, x => x
  | [constant], k, x => xorBytes (rowShift (x.map subByte)) (nextRoundKey constant k)
  | constant :: rest, k, x =>
    let k' := nextRoundKey constant k
    cipherRounds rest k' (xorBytes (mixColumns (rowShift (x.map subByte))) k')

/-- `n` bytes of a number, most significant first. -/
def beBytes : Nat → Nat → List Byte
  | 0, _ => []
  | n + 1, v => BitVec.ofNat 8 (v / 256 ^ n) :: beBytes n v

/-- The number that a list of bytes spells, most significant first. -/
def beNat (bytes : List Byte) : Nat := bytes.foldl (fun acc b => acc * 256 + b.toNat) 0

/-- E(K, X) (R48). -/
def E (key x : Block) : Block :=
  let k := beBytes 16 key.toNat
  let start := xorBytes (beBytes 16 x.toNat) k
  BitVec.ofNat 128 (beNat (cipherRounds [0x01, 0x02, 0x04, 0x08, 0x10, 0x20, 0x40, 0x80, 0x1B, 0x36] k start))

/-- The first 8 bytes of a block. -/
def firstEight (x : Block) : BitVec 64 := x.extractLsb' 64 64

/-- The first 3 bytes of a block. -/
def firstThree (x : Block) : BitVec 24 := x.extractLsb' 104 24

/-- The check value of a key (R6). -/
def checkValueOf (key : Block) : BitVec 24 := firstThree (E key 0)

/-- The derivation block D of R55: tag ID, generation in two bytes, and the label 54h 4Bh 00h 00h 00h 01h. -/
def derivationBlock (tagId : BitVec 64) (g : Gen) : Block :=
  tagId ++ (0#4 ++ g) ++ (0x544B00000001#48)

/-- The tag key Kt = E(Kg, D) (R55). -/
def tagKey (kg : Block) (tagId : BitVec 64) (g : Gen) : Block := E kg (derivationBlock tagId g)

/-- The tag proof P: the first 8 bytes of E(Kt, Nt followed by Nr) (R92). -/
def tagProof (kt : Block) (nt nr : BitVec 64) : BitVec 64 := firstEight (E kt (nt ++ nr))

/-- The expected reply: the first 8 bytes of E(Kt, Nr followed by Nt) (R98). -/
def expectedReply (kt : Block) (nt nr : BitVec 64) : BitVec 64 := firstEight (E kt (nr ++ nt))

/-- The first 16 bytes of the receipt record: tag ID, generation, lane, zero, receipt number (R112). -/
def receiptHead (tagId : BitVec 64) (g : Gen) (lane : LaneIx) (number : Nat) : Block :=
  tagId ++ (0#4 ++ g) ++ BitVec.ofNat 8 lane.val ++ 0#8 ++ BitVec.ofNat 32 number

/-- The receipt tag of R113: X1 is the first block under Kr, X2 the encryption of X1 XOR the toll data, and the tag its first
8 bytes. -/
def receiptTag (kr : Block) (head toll : Block) : BitVec 64 := firstEight (E kr (E kr head ^^^ toll))

/-- The key K of a LOAD through a transport slot: W XOR E(Kx, IV) (R134). -/
def unwrapped (kx wrapped iv : Block) : Block := wrapped ^^^ E kx iv

end Sys2Proof.Machine
end

