-- ==== Sys2Proof/Machine/Operands.lean ====
section
/-! DEFINITION. The operands of the port commands: the fields of their payloads, most significant byte first (R186, R126,
and the SUBMIT layout of section 10.7). A parser answers `none` exactly when the payload has not the command's length,
which order 4 of R175 refuses BAD_LENGTH. -/

namespace Sys2Proof.Machine

/-- A command without arguments. -/
def argNone : List Byte → Option Unit
  | [] => some ()
  | _ => none

/-- One argument byte. -/
def argByte : List Byte → Option Byte
  | [a] => some a
  | _ => none

/-- Two argument bytes, each an argument of its own (SET_WINDOW). -/
def argTwoBytes : List Byte → Option (Byte × Byte)
  | [a, b] => some (a, b)
  | _ => none

/-- Three argument bytes, each an argument of its own (SET_PROTECT, SET_PORT_MONITOR). -/
def argThreeBytes : List Byte → Option (Byte × Byte × Byte)
  | [a, b, c] => some (a, b, c)
  | _ => none

/-- One two-byte argument. -/
def argWord : List Byte → Option (BitVec 16)
  | [a, b] => some (a ++ b)
  | _ => none

/-- One four-byte argument. -/
def argLong : List Byte → Option Nat
  | [a, b, c, d] => some (beNat [a, b, c, d])
  | _ => none

/-- SET_GEOMETRY: H′, N′ and the two bytes of C0. -/
def argGeometry : List Byte → Option (Byte × Byte × BitVec 16)
  | [a, b, c, d] => some (a, b, c ++ d)
  | _ => none

/-- SYNC: a lane number and a site code on a lane port, a site code on the site port (R177). -/
def argSync : Port → List Byte → Option (Option Byte × BitVec 16)
  | .lane _, [lane, a, b] => some (some lane, a ++ b)
  | .site, [a, b] => some (none, a ++ b)
  | _, _ => none

/-- SUBMIT at order 4 of R175: at least one payload byte. -/
def argSubmit : List Byte → Option (List Byte)
  | [] => none
  | payload => some payload

/-- `n` bytes of a payload from byte `from_` on (counted from 0), as a number. -/
def field (payload : List Byte) (from_ n : Nat) : Nat := beNat ((payload.drop from_).take n)

/-- One byte of a payload, counted from 0. -/
def byteAt (payload : List Byte) (i : Nat) : Byte := payload.getD i 0

/-- The job kind a kind byte names (R186). -/
def jobKindOf (b : Byte) : Option JobKind :=
  if b = 0x01 then some .answer else if b = 0x02 then some .verify else if b = 0x03 then some .seal else none

/-- The payload length of a SUBMIT of the kind (R186). -/
def submitLength : JobKind → Nat
  | .answer => 22
  | .verify => 13
  | .seal => 22

/-- The fields of the kind in a SUBMIT payload (section 10.7). -/
def submitBody (kind : JobKind) (payload : List Byte) : JobBody :=
  match kind with
  | .answer => .answer { tagId := BitVec.ofNat 64 (field payload 4 8), generation := BitVec.ofNat 16 (field payload 12 2),
                         nt := BitVec.ofNat 64 (field payload 14 8) }
  | .verify => .verify { handle := byteAt payload 4, mac := BitVec.ofNat 64 (field payload 5 8) }
  | .seal => .seal { handle := byteAt payload 4, receiptSlot := byteAt payload 5,
                     toll := BitVec.ofNat 128 (field payload 6 16) }

/-- The clamp of a budget (R68). -/
def clampBudget (budget : Nat) : Nat := if budget = 0 then 0 else if budget < 100 then 100 else budget

/-- The kind of a job body. -/
def JobBody.kind : JobBody → JobKind
  | .answer _ => .answer
  | .verify _ => .verify
  | .seal _ => .seal

/-- The generation of an ANSWER job: the lower twelve bits of its field (R50). -/
def AnswerJob.gen (job : AnswerJob) : Gen := job.generation.setWidth 12

/-- The fields of a LOAD payload (R126). -/
structure LoadArgs where
  targetKind : Byte
  targetHigh : Byte
  targetLow : Byte
  usage : Byte
  laneMask : Byte
  transport : Byte
  wrapped : Block
  iv : Block
  kcvBytes : List Byte
  manifest : Byte
  deriving DecidableEq, Repr

/-- LOAD: 42 bytes (R126). -/
def argLoad (payload : List Byte) : Option LoadArgs :=
  if payload.length = 42 then
    some { targetKind := byteAt payload 0, targetHigh := byteAt payload 1, targetLow := byteAt payload 2,
           usage := byteAt payload 3, laneMask := byteAt payload 4, transport := byteAt payload 5,
           wrapped := BitVec.ofNat 128 (field payload 6 16), iv := BitVec.ofNat 128 (field payload 22 16),
           kcvBytes := (payload.drop 38).take 3, manifest := byteAt payload 41 }
  else none

/-- The target bytes of a LOAD as a number. -/
def LoadArgs.target (a : LoadArgs) : BitVec 16 := a.targetHigh ++ a.targetLow

/-- The target kind is RING (01h). -/
def LoadArgs.isRing (a : LoadArgs) : Bool := a.targetKind == 0x01

/-- The KCV of a LOAD. -/
def LoadArgs.kcv (a : LoadArgs) : BitVec 24 := BitVec.ofNat 24 (beNat a.kcvBytes)

/-- The usage a usage byte names (R126). -/
def usageOf (b : Byte) : Option Usage :=
  if b = 0x01 then some .tagRoot else if b = 0x02 then some .receipt else if b = 0x03 then some .transport else none

/-- The fixed area an area byte names (R165). -/
def fixedAreaOf (b : Byte) : Option FixedArea :=
  if b = 0x01 then some .head else if b = 0x02 then some .tail else none

/-- A slot index byte of 0 to 63. -/
def slotIndexOf (b : Byte) : Option SlotIx := if h : b.toNat < 64 then some ⟨b.toNat, h⟩ else none

/-- A bank number byte of 0 to 7. -/
def bankIndexOf (b : Byte) : Option (Fin 8) := if h : b.toNat < 8 then some ⟨b.toNat, h⟩ else none

/-- The port a port-number byte names: 0 to 3 for LP0 to LP3, 4 for SP (R181). -/
def portOf (b : Byte) : Option Port :=
  if h : b.toNat < 4 then some (.lane ⟨b.toNat, h⟩) else if b.toNat = 4 then some .site else none

/-- The port monitor settings in three bytes; `none` for a threshold of 0 or an unassigned bit set (R179, R186). -/
def monitorOf (modes threshold mask : Byte) : Option Monitor :=
  if threshold = 0 ∨ 8 ≤ modes.toNat ∨ 8 ≤ mask.toNat then none
  else some { checkWrap := modes.getLsbD 0, frameWrap := modes.getLsbD 1, commandWrap := modes.getLsbD 2,
              threshold := threshold, haltCheck := mask.getLsbD 0, haltFrame := mask.getLsbD 1,
              haltCommand := mask.getLsbD 2 }

/-- The entry a handle names: the handle divided by 64 (R91). -/
def handleEntry (handle : Byte) : EntryIx := Fin.ofNat 4 (handle.toNat / 64)

/-- The serial a handle carries: the remainder (R91). -/
def handleSerial (handle : Byte) : BitVec 6 := BitVec.ofNat 6 handle.toNat

/-- The handle of an entry and a serial: entry × 64 + serial (R91). -/
def handleOf (entry : EntryIx) (serial : BitVec 6) : Byte := BitVec.ofNat 8 (entry.val * 64 + serial.toNat)

end Sys2Proof.Machine
end

