-- ==== Sys2Proof/Machine/Ring.lean ====
section
/-! DEFINITION. The geometry of the key store and the position arithmetic of the generation ring (R1, R24 to R27). -/

namespace Sys2Proof.Machine

/-- T = 64 − H − N (R1). -/
def Geometry.tail (g : Geometry) : Nat := 64 - g.head - g.ring

/-- The area of slot `i` (R1). -/
def Geometry.area (g : Geometry) (i : SlotIx) : Area :=
  if i.val < g.head then .head else if i.val < g.head + g.ring then .ring else .tail

/-- The bank of slot `i` (R1). -/
def bankOf (i : SlotIx) : Nat := i.val / 8

/-- All slots in index order. -/
def allSlots : List SlotIx := List.finRange 64

/-- All lanes in order. -/
def allLanes : List LaneIx := List.finRange 4

/-- The position of a generation while the ring is LIVE (R24). -/
def Ring.position (r : Ring) (g : Gen) : Int := ((g.toNat : Int) - (r.c.toNat : Int) + 2048) % 4096 - 2048

/-- A position of the ring range, −B to N−1−B (R25). -/
def Ring.inRange (r : Ring) (geo : Geometry) (p : Int) : Bool :=
  decide (-(r.back : Int) ≤ p) && decide (p ≤ (geo.ring : Int) - 1 - (r.back : Int))

/-- A position of the acceptance window, −B to A (R27). -/
def Ring.inWindow (r : Ring) (p : Int) : Bool := decide (-(r.back : Int) ≤ p) && decide (p ≤ (r.ahead : Int))

/-- The slot at offset `o` from the head (R25): H + ((h + o) mod N). Under the law of the geometry (R22) it is below 64; a
number outside is taken modulo 64 (assumption 27). -/
def Ring.slotAtOffset (r : Ring) (geo : Geometry) (o : Int) : SlotIx :=
  Fin.ofNat 64 (geo.head + (((r.h : Int) + o) % (geo.ring : Int)).toNat)

/-- slot(g) for a generation at position `p` of the ring range (R25). -/
def Ring.slotAt (r : Ring) (geo : Geometry) (p : Int) : SlotIx := r.slotAtOffset geo p

/-- The offset of ring slot `i` from the head: (i − H − h) mod N (R26). -/
def Ring.offset (r : Ring) (geo : Geometry) (i : SlotIx) : Int :=
  ((i.val : Int) - (geo.head : Int) - (r.h : Int)) % (geo.ring : Int)

/-- The position of ring slot `i` (R26). -/
def Ring.slotPosition (r : Ring) (geo : Geometry) (i : SlotIx) : Int :=
  let o := r.offset geo i
  if o ≤ (geo.ring : Int) - 1 - (r.back : Int) then o else o - (geo.ring : Int)

/-- The generation that a position stands for: (C + s) mod 4096 (R26). -/
def Ring.genAt (r : Ring) (p : Int) : Gen := BitVec.ofInt 12 ((r.c.toNat : Int) + p)

/-- The generation that the position of ring slot `i` stands for (R26). -/
def Ring.standsFor (r : Ring) (geo : Geometry) (i : SlotIx) : Gen := r.genAt (r.slotPosition geo i)

/-- The rotation timer counts: P > 0, the ring LIVE and no rotation pending (R34). -/
def Ring.counting (r : Ring) : Bool := decide (0 < r.period) && r.live && !r.rotationPending

/-- Reload the timer: remaining becomes P and a new second begins (R34). -/
def Ring.reload (r : Ring) : Ring := { r with remaining := r.period, secondRun := 0 }

/-- The timer after `n` µs (R34): while it counts, remaining falls by one at each second that elapses. -/
def Ring.elapse (n : Nat) (r : Ring) : Ring :=
  if r.counting then
    let run := r.secondRun + n
    if run / 1000000 < r.remaining then
      { r with remaining := r.remaining - run / 1000000, secondRun := run % 1000000 }
    else { r with remaining := 0, secondRun := 0 }
  else r

/-- The µs until the counting timer reaches 0 (R35). -/
def Ring.untilExpiry (r : Ring) : Nat := r.remaining * 1000000 - r.secondRun

end Sys2Proof.Machine
end

