-- ==== Sys2Proof/Machine/Ops.lean ====
section
/-! DEFINITION. The shared operations of the part: reads and writes of slots, the passing of time, the retirement and erasure
of slots with their purges, the alignment check, the advance, sessions, the cache, the receipt counter, the write
engine's start, completion and abort, the lane context discard and the start-up. -/

namespace Sys2Proof.Machine

/-! ## Slots -/

/-- The working-image record of slot `i` (R3). -/
def State.slot (s : State) (i : SlotIx) : Slot := s.store.slots[i]

/-- Put the working-image record of slot `i`. -/
def State.setSlot (i : SlotIx) (x : Slot) (s : State) : State :=
  { s with store := { s.store with slots := s.store.slots.set i x } }

/-- The NV record of slot `i` (R7). -/
def State.nvSlot (s : State) (i : SlotIx) : NvSlot := s.array.slots[i]

/-- Put the NV record of slot `i`. -/
def State.setNvSlot (i : SlotIx) (x : NvSlot) (s : State) : State :=
  { s with array := { s.array with slots := s.array.slots.set i x } }

/-- Change every slot of the working image, each by its own index. -/
def State.mapSlots (f : SlotIx → Slot → Slot) (s : State) : State :=
  { s with store := { s.store with slots := Vector.ofFn fun i => f i s.store.slots[i] } }

/-- Change every NV slot record, each by its own index. -/
def State.mapNvSlots (f : SlotIx → NvSlot → NvSlot) (s : State) : State :=
  { s with array := { s.array with slots := Vector.ofFn fun i => f i s.array.slots[i] } }

/-- The area of slot `i` under the geometry in force (R1). -/
def State.areaOf (s : State) (i : SlotIx) : Area := s.store.geometry.area i

/-- Slot `i` is a ring slot. -/
def State.inRing (s : State) (i : SlotIx) : Bool := s.areaOf i == .ring

/-- The generation a slot holds, if any. -/
def Slot.generation (x : Slot) : Option Gen := x.fields.bind (·.generation)

/-- The usage a slot holds, if any. -/
def Slot.usage (x : Slot) : Option Usage := x.fields.map (·.usage)

/-- The slot is LOADED with a key of the usage. -/
def Slot.serves (x : Slot) (u : Usage) : Bool := x.state == .loaded && x.usage == some u

/-- Lane `l` is in the slot's lane mask (R5). -/
def Slot.allows (x : Slot) (l : LaneIx) : Bool :=
  match x.fields with
  | some f => f.laneMask.getLsbD l.val
  | none => false

/-- The slot with its fields absent and its key zeroised, in a given state (R3). -/
def Slot.cleared (st : SlotState) : Slot := { state := st, fields := none, key := 0, markPending := false }

/-- Usage fits the area: TAG_ROOT in the ring, RECEIPT or TRANSPORT in a fixed area (R4, R20). -/
def usageFits (u : Usage) (a : Area) : Bool := (u == .tagRoot) == (a == .ring)

/-- The position of ring slot `i` (R26). -/
def State.slotPosition (s : State) (i : SlotIx) : Int := s.ring.slotPosition s.store.geometry i

/-- Ring slot `i` is inside the window (R27); nothing is while the ring is UNSET (R23). -/
def State.inWindow (s : State) (i : SlotIx) : Bool := s.ring.live && s.ring.inWindow (s.slotPosition i)

/-- Ring slot `i` holds the generation its position stands for (R28). -/
def State.aligned (s : State) (i : SlotIx) : Bool :=
  (s.slot i).generation == some (s.ring.standsFor s.store.geometry i)

/-! ## Time -/

/-- The elapsed time from a reading to another (R66). -/
def elapsed (t0 t1 : Time) : Nat := (t1 - t0).toNat

/-- The write engine after `n` µs: the array comes to rest, and from then on the remaining time of the active operation
falls (R146). -/
def WriteEngine.elapse (n : Nat) (e : WriteEngine) : WriteEngine :=
  { e with restLeft := e.restLeft - n,
           active := e.active.map fun a => { a with remaining := a.remaining - (n - e.restLeft) } }

/-- The part after `t` tenths of a µs. Without power and in reset nothing proceeds (R185). -/
def State.elapse (t : Nat) (s : State) : State :=
  match s.power with
  | .off => s
  | .held => s
  | _ =>
    let n := (s.clock.tenths + t) / 10
    { s with clock := { time := s.clock.time + BitVec.ofNat 32 n, tenths := (s.clock.tenths + t) % 10,
                        startupLeft := s.clock.startupLeft - n, rotLeft := s.clock.rotLeft - n },
             ring := s.ring.elapse n, engine := s.engine.elapse n,
             cipher := { s.cipher with work := s.cipher.work.map fun w => { w with left := w.left - t } } }

/-- The part `n` µs later: how an event of the table waits for its moment (assumption 2). -/
def State.wait (n : Nat) (s : State) : State := s.elapse (10 * n)

/-- The µs until the active operation completes: first the rest of the array, then its remaining time (R145, R146). -/
def State.untilComplete (s : State) : Nat :=
  s.engine.restLeft + match s.engine.active with | some a => a.remaining | none => 0

/-! ## Sessions -/

/-- Close the open session of an entry, keeping its serial, when `p` holds of it (section 5.7). -/
def Entry.closeIf (p : Session → Bool) (e : Entry) : Entry :=
  match e.session with
  | some x => if p x then { e with session := none } else e
  | none => e

/-- An entry holds an open session of which `p` holds. -/
def Entry.holds (p : Session → Bool) (e : Entry) : Bool :=
  match e.session with
  | some x => p x
  | none => false

/-- The sessions of a lane with those closed of which `p` holds. -/
def Lane.closeEntries (p : Session → Bool) (x : Lane) : Lane :=
  { x with sessions := Vector.ofFn fun e => (x.sessions[e]).closeIf p }

/-- Close every session of a lane of which `p` holds, and set SESSION_LOST when at least one was closed (R103, R107). -/
def Lane.loseSessions (p : Session → Bool) (x : Lane) : Lane :=
  if x.sessions.toList.any (Entry.holds p) then (x.closeEntries p).flag .sessionLost else x

/-- The number of open sessions of a lane. -/
def Lane.openSessions (x : Lane) : Nat := (x.sessions.toList.filter (fun e => e.session.isSome)).length

/-- The entry of a handle, when the handle is current in the lane (R91). -/
def Lane.current (x : Lane) (handle : Byte) : Option Session :=
  let e := x.sessions[handleEntry handle]
  if e.serial = handleSerial handle then e.session else none

/-- Put the session of an entry, keeping its serial. -/
def Lane.setSession (i : EntryIx) (v : Option Session) (x : Lane) : Lane :=
  { x with sessions := x.sessions.set i { x.sessions[i] with session := v } }

/-! ## Purges, retirement and erasure -/

/-- The generations held by the ring slots that `p` names. -/
def State.generationsOf (s : State) (p : SlotIx → Bool) (g : Gen) : Bool :=
  allSlots.any fun i => p i && s.inRing i && (s.slot i).generation == some g

/-- Hand generations to the cache and to the session table: their entries go (R60, R61) and their sessions close in every
lane (R103, R104). -/
def State.purge (gone : Gen → Bool) (s : State) : State :=
  { s with cache := s.cache.filter fun e => !gone e.generation }.mapLanes fun x =>
    x.loseSessions fun session => gone session.generation

/-- A slot in RETIRED and in the retire-mark set, with its fields and key kept (R10). -/
def Slot.retire (x : Slot) : Slot := { x with state := .retired, markPending := true }

/-- The slots named enter RETIRED: they keep their fields and key, join the retire-mark set, and the generations of the ring
slots among them are purged (R10). -/
def State.retireSlots (p : SlotIx → Bool) (s : State) : State :=
  (s.mapSlots fun i x => if p i then x.retire else x).purge (s.generationsOf p)

/-- The slots of the retire-mark set in index order (R14). -/
def State.retireSet (s : State) : List SlotIx := allSlots.filter fun i => (s.slot i).markPending

/-- The slots that a retire-mark write in progress has taken (R14). -/
def State.takenMarks (s : State) : List SlotIx :=
  match s.engine.active with
  | some { op := .retireMarks slots _, .. } => slots
  | _ => []

/-- A retire-mark request is outstanding: the set holds a slot that no write in progress has taken (R14). -/
def State.retireOutstanding (s : State) : Bool := s.retireSet.any fun i => !s.takenMarks.contains i

/-- The retry mark of a retire-mark request that is no longer outstanding is gone with it. -/
def State.settleRetry (s : State) : State :=
  if s.retireOutstanding then s else { s with engine := { s.engine with retireRetry := false } }

/-- The alignment check (R28): while the ring is LIVE, every LOADED ring slot whose generation does not match its position
is retired. The slots are independent of one another, so they are retired together. -/
def State.misaligned (s : State) (i : SlotIx) : Bool :=
  s.inRing i && (s.slot i).state == .loaded && !s.aligned i

/-- Run the alignment check (R28). -/
def State.alignmentCheck (s : State) : State := if s.ring.live then s.retireSlots s.misaligned else s

/-- The targets of a program or erase (R11). -/
def SlotOp.targets : SlotOp → SlotIx → Bool
  | .program i, j => j == i
  | .eraseSlot i, j => j == i
  | .eraseBank k, j => bankOf j == k.val

/-- A target of an erase that is not BLANK enters ERASING (R11). -/
def State.erasable (s : State) (op : SlotOp) (i : SlotIx) : Bool := op.targets i && (s.slot i).state != .blank

/-- The start of an erase (R11): each target that is not BLANK enters ERASING, leaves the retire-mark set and is zeroised;
the generations of the ring slots among them are purged; and ERASE_BEGUN is written into their NV records in one step. -/
def State.beginErase (op : SlotOp) (s : State) : State :=
  let cleared := s.mapSlots fun i x => if s.erasable op i then Slot.cleared .erasing else x
  let begun := cleared.mapNvSlots fun i x => if s.erasable op i then { x with marker := .eraseBegun } else x
  (begun.purge (s.generationsOf (s.erasable op))).settleRetry

/-! ## The advance -/

/-- The precondition of an advance (R30). -/
def State.nextReady (s : State) : Bool :=
  let i := s.ring.slotAt s.store.geometry 1
  s.ring.live && (s.slot i).state == .loaded && (s.slot i).generation == some (s.ring.genAt 1)

/-- Set the generation-record request, or replace the values it carries (R45). -/
def State.requestGenRecord (s : State) : State :=
  let retry := match s.engine.genRequest with | some r => r.retry | none => false
  { s with engine := { s.engine with genRequest := some { c := s.ring.c, h := s.ring.h, retry := retry } } }

/-- An advance, step by step as R31 lists it. -/
def State.advance (s : State) : State :=
  let stepped := { s with ring := { s.ring with c := s.ring.c + 1, h := (s.ring.h + 1) % s.store.geometry.ring } }
  let checked := stepped.alignmentCheck
  let timed := { checked with ring := { checked.ring with rotationPending := false }.reload }
  let asked := timed.requestGenRecord
  let pulsed := { asked with clock := { asked.clock with rotLeft := Config.rotTime } }
  (pulsed.flagSite .rotated).flagLanes .rotated

/-! ## The tag key cache -/

/-- The entry of a tag under a generation. -/
def cacheFind (tagId : BitVec 64) (g : Gen) (cache : List CacheEntry) : Option CacheEntry :=
  cache.find? fun e => e.tagId == tagId && e.generation == g

/-- The cache without the entry of a tag under a generation. -/
def cacheRemove (tagId : BitVec 64) (g : Gen) (cache : List CacheEntry) : List CacheEntry :=
  cache.filter fun e => !(e.tagId == tagId && e.generation == g)

/-- A hit moves its entry to the most-recent end (R57). -/
def cacheTouch (e : CacheEntry) (cache : List CacheEntry) : List CacheEntry :=
  cacheRemove e.tagId e.generation cache ++ [e]

/-- An insert: the entry it replaces goes, then the least recent one when the cache is full, and the new entry is placed at
the most-recent end (R58, R59). -/
def cacheInsert (e : CacheEntry) (cache : List CacheEntry) : List CacheEntry :=
  let rest := cacheRemove e.tagId e.generation cache
  (if Config.cacheRoom ≤ rest.length then rest.drop 1 else rest) ++ [e]

/-! ## Lane queues and the discard -/

/-- Append a result to the lane's result queue (R83). -/
def Lane.pushResult (r : Result) (x : Lane) : Lane := { x with results := x.results ++ [r] }

/-- The result of a job with no optional fields (R77). -/
def Job.result (j : Job) (code : Code) : Result :=
  { jobTag := j.jobTag, kind := j.body.kind, code := code, extra := .none }

/-- Detach the job of lane `l` that is in the engine, if any (R86). -/
def Cipher.detach (l : LaneIx) (c : Cipher) : Cipher :=
  { c with work := c.work.map fun w => if w.requester = .lane l then { w with detached := true } else w }

/-- A lane whose context is discarded: jobs, results, sessions and counter wait go, the serials stay (R85, R106). -/
def Lane.discard (x : Lane) : Lane :=
  { x.loseSessions (fun _ => true) with jobs := [], results := [], counterWait := false }

/-- The lane context discard of R85. -/
def State.discardLane (l : LaneIx) (s : State) : State :=
  { s.setLane l (s.lane l).discard with cipher := s.cipher.detach l }

/-! ## The receipt counter -/

/-- The low-water condition (R117); it is not examined while a SET_COUNTER is in progress (R122). -/
def Counter.lowWater (c : Counter) : Bool :=
  c.state == .running && decide (c.limit - c.next ≤ Config.lowWater) && decide (c.limit < Config.counterTop) &&
    !c.reserving && !c.setting

/-- Request a reservation (R117). -/
def State.requestReservation (s : State) : State :=
  let asked : CounterRequest := { limit := min (s.counter.limit + Config.reserveStep) Config.counterTop, retry := false }
  { s with counter := { s.counter with reserving := true },
           engine := { s.engine with counterRequest := some asked } }

/-- Examine the low-water condition (R117). -/
def State.examineLowWater (s : State) : State := if s.counter.lowWater then s.requestReservation else s

/-- The counter's report to the scheduler: every lane in counter wait leaves it (R78, R120). -/
def State.report (s : State) : State :=
  s.mapLanes fun x => { x with counterWait := false }

/-- Issue a number (R116): next rises by one, the counter may enter EXHAUSTED, and otherwise the low-water condition is
examined. The number issued is `s.counter.next`. -/
def State.issueNumber (s : State) : State :=
  let next := s.counter.next + 1
  if next = Config.counterTop ∧ next = s.counter.limit then
    ({ s with counter := { s.counter with next := next, state := .exhausted } }).flagSite .counter
  else ({ s with counter := { s.counter with next := next } }).examineLowWater

/-! ## The write engine -/

/-- An internal request is outstanding (R152). -/
def State.requestOutstanding (s : State) : Bool :=
  s.engine.counterRequest.isSome || s.engine.genRequest.isSome || s.retireOutstanding

/-- A site command finds the engine IDLE: no operation is active, and no internal request stands before the command, whose
write would then be active (R144, R148, R152, assumption 14). -/
def State.idle (s : State) : Bool := s.engine.active.isNone && !s.requestOutstanding

/-- The engine check of R148 for commands that need an IDLE engine with nothing held. -/
def State.engineCheck (s : State) : Option Code :=
  if !s.idle then some .busy else if s.engine.held.isSome then some .suspended else none

/-- Make an operation active (R145). -/
def State.startOp (op : Operation) (time : Nat) (s : State) : State :=
  { s with engine := { s.engine with active := some { op := op, remaining := time } } }

/-- The active operation becomes absent. -/
def State.endOp (s : State) : State := { s with engine := { s.engine with active := none } }

/-- Clear the write permit (R147). -/
def State.spendPermit (s : State) : State := { s with engine := { s.engine with permit := false } }

/-- Record the outcome of a site operation and set its flag (R158). -/
def State.outcome (kind : OutcomeKind) (target : Target) (code : Code) (good : Bool) (s : State) : State :=
  ({ s with engine := { s.engine with lastOutcome := some { kind := kind, target := target, code := code } } }).flagSite
    (if good then .nvDone else .nvFailed)

/-- Start the first outstanding internal request in the order of R152; its write takes the values it carries then. -/
def State.startInternal (s : State) : State :=
  match s.engine.counterRequest with
  | some r =>
    { s with engine := { s.engine with counterRequest := none } }.startOp (.reservation r.limit r.retry) Config.recordTime
  | none =>
    match s.engine.genRequest with
    | some r =>
      { s with engine := { s.engine with genRequest := none } }.startOp (.genRecord r.c r.h r.retry) Config.recordTime
    | none =>
      if s.retireOutstanding then
        { s with engine := { s.engine with retireRetry := false } }.startOp
          (.retireMarks s.retireSet s.engine.retireRetry) Config.recordTime
      else s

/-- What the engine does in the completion of an operation, once that operation is absent: it starts the next internal write,
resumes an AUTO hold, or becomes IDLE (R145, R152, R153). -/
def State.proceed (s : State) : State :=
  if s.requestOutstanding then s.startInternal
  else
    match s.engine.held with
    | some { op := op, remaining := left, by_ := .auto } =>
      { s with engine := { s.engine with active := some { op := .slotOp op, remaining := left }, held := none } }
    | _ => s

/-- The active operation is a site erase (R152). -/
def ActiveOp.isErase (a : ActiveOp) : Bool :=
  match a.op with
  | .slotOp (.eraseSlot _) => true
  | .slotOp (.eraseBank _) => true
  | _ => false

/-- The active erase becomes held by AUTO with its remaining time kept, and the array comes to rest 20 µs later
(R146, R153). -/
def State.holdActive (who : HeldBy) (s : State) : State :=
  match s.engine.active with
  | some { op := .slotOp op, remaining := left } =>
    { s with engine := { s.engine with active := none, held := some { op := op, remaining := left, by_ := who },
                                       restLeft := Config.restTime } }
  | _ => s

/-! ### Records -/

/-- Every setting in force, as a settings write carries them (R149). -/
def State.settings (s : State) : Settings :=
  { geometry := s.store.geometry, back := s.ring.back, ahead := s.ring.ahead, period := s.ring.period,
    headProtect := s.protection.head.nv, tailProtect := s.protection.tail.nv, freeze := s.protection.freeze,
    siteCode := s.siteCode, laneEnable := s.laneEnable }

/-- Put the settings record of the array. -/
def State.putSettings (r : NvRecord Settings) (s : State) : State := { s with array := { s.array with settings := r } }

/-- Put the generation record of the array. -/
def State.putGeneration (r : NvRecord GenRecord) (s : State) : State :=
  { s with array := { s.array with generation := r } }

/-- Put the counter record of the array. -/
def State.putCounter (r : NvRecord Nat) (s : State) : State := { s with array := { s.array with counter := r } }

/-- Write the lock cell of an area (R150). -/
def State.putCell (a : FixedArea) (written : Bool) (s : State) : State :=
  match a with
  | .head => { s with array := { s.array with headCell := written } }
  | .tail => { s with array := { s.array with tailCell := written } }

/-- The lock cell of an area. -/
def State.cell (s : State) : FixedArea → Bool
  | .head => s.array.headCell
  | .tail => s.array.tailCell

/-- RETIRE_MARKED in the NV record of a slot. -/
def NvSlot.marked (x : NvSlot) : NvSlot := { x with marker := .retireMarked }

/-- A retire-mark write that did not succeed leaves each slot it took with its old marker or with the new one: a free choice
for each (R14, R154, R159, assumption 5). -/
def State.scatterMarks (taken : List SlotIx) (s : State) : State :=
  { s.mapNvSlots fun i x => if taken.contains i && Config.markLanded s.draws i.val then x.marked else x with
    draws := s.draws + 1 }

/-- Abandon the operation that the engine has active, as the cut-off write leaves the array (R159). Programs and erases
leave their begin markers; a LOAD in PREPARING has written nothing. -/
def State.abandonActive (s : State) : State :=
  match s.engine.active with
  | some { op := .settings (.geometry _) _, .. } => (s.putSettings .damaged).putGeneration .damaged
  | some { op := .settings (.lock a) _, .. } =>
    { (s.putSettings .damaged).putCell a (s.cell a || Config.cellLanded s.draws) with draws := s.draws + 1 }
  | some { op := .settings _ _, .. } => s.putSettings .damaged
  | some { op := .setCurrent _ _ _, .. } => s.putGeneration .damaged
  | some { op := .genRecord _ _ _, .. } => s.putGeneration .damaged
  | some { op := .setCounter _ _, .. } => s.putCounter .damaged
  | some { op := .reservation _ _, .. } => s.putCounter .damaged
  | some { op := .retireMarks slots _, .. } => s.scatterMarks slots
  | some { op := .load _, .. } => s
  | some { op := .slotOp _, .. } => s
  | none => s

/-- A reset or loss of power abandons whatever the write engine has active or held and whatever the cipher engine holds
(R49, R159), and ends every transaction (R174). -/
def State.abandon (s : State) : State :=
  let a := s.abandonActive.mapLanes fun x => { x with port := { x.port with response := none } }
  { a with engine := { a.engine with active := none, held := none }, cipher := { a.cipher with work := none },
           site := { a.site with port := { a.site.port with response := none } },
           clock := { a.clock with rotLeft := 0 } }

/-! ## Protection -/

/-- The protection of a fixed area. -/
def Protection.area (p : Protection) : FixedArea → AreaProtection
  | .head => p.head
  | .tail => p.tail

/-- Put the protection of a fixed area. -/
def Protection.setArea (a : FixedArea) (x : AreaProtection) (p : Protection) : Protection :=
  match a with
  | .head => { p with head := x }
  | .tail => { p with tail := x }

/-- The fixed area an area is, if it is one. -/
def Area.fixed : Area → Option FixedArea
  | .head => some .head
  | .ring => none
  | .tail => some .tail

/-- The effective protection of a fixed area (R163). -/
def AreaProtection.effective (x : AreaProtection) : Bool := x.lock || (if x.overlayValid then x.overlay else x.nv)

/-- The part is frozen: freeze is 1 and WPL is low (R169). -/
def Protection.frozen (p : Protection) : Bool := p.freeze && !p.wpl

/-- Slot `i` lies in an area with effective protection (R163). -/
def State.protectedSlot (s : State) (i : SlotIx) : Bool :=
  match (s.areaOf i).fixed with
  | some a => (s.protection.area a).effective
  | none => false

/-- Slot `i` lies in a locked area (R16). -/
def State.lockedSlot (s : State) (i : SlotIx) : Bool :=
  match (s.areaOf i).fixed with
  | some a => (s.protection.area a).lock
  | none => false

/-! ## Start-up -/

/-- The settings taken at a start-up: those of a good record, otherwise the factory settings (R160). -/
def NvRecord.settingsTaken : NvRecord Settings → Settings
  | .good v => v
  | _ => Settings.factory

/-- A record reads good. -/
def NvRecord.isGood {α : Type} : NvRecord α → Bool
  | .good _ => true
  | _ => false

/-- Every cell of the slot record is erased (R7, R20). -/
def NvSlot.isErased (x : NvSlot) : Bool := x.marker == .erased && x.fields.isNone && x.key == 0 && x.checkGood

/-- A record that holds a key: the slot takes its fields when the usage fits the area, the generation only in the ring, and
is DAMAGED otherwise (R20). -/
def NvSlot.keep (x : NvSlot) (a : Area) (f : SlotFields) (st : SlotState) : Slot :=
  if usageFits f.usage a then
    { state := st, fields := some { f with generation := if a = .ring then f.generation else none }, key := x.key,
      markPending := false }
  else Slot.cleared .damaged

/-- The state a slot takes from its NV record at start-up, under the area the geometry gives it (R20). -/
def NvSlot.classify (x : NvSlot) (a : Area) : Slot :=
  if x.isErased then Slot.empty
  else
    match x.checkGood, x.marker, x.fields with
    | true, .programEnded, some f => x.keep a f .loaded
    | true, .retireMarked, some f => x.keep a f .retired
    | _, _, _ => Slot.cleared .damaged

/-- The ring at start-up (R47). -/
def ringAtStart (set : Settings) (r : NvRecord GenRecord) : Ring :=
  let base : Ring := { live := false, c := 0, h := 0, back := set.back, ahead := set.ahead, period := set.period,
                       remaining := set.period, secondRun := 0, rotationPending := false }
  match r with
  | .good g => if g.live && decide (g.h < set.geometry.ring) then { base with live := true, c := g.c, h := g.h } else base
  | _ => base

/-- The counter at start-up (R124), before the reservation is requested. -/
def counterAtStart : NvRecord Nat → Counter
  | .good limit =>
    if limit = Config.counterTop then
      { state := .exhausted, next := limit, limit := limit, reserving := false, setting := false }
    else { state := .running, next := limit, limit := limit, reserving := false, setting := false }
  | _ => { state := .unset, next := 0, limit := 0, reserving := false, setting := false }

/-- The protection of an area at start-up (R162). -/
def protectionAtStart (nv cell : Bool) : AreaProtection :=
  { nv := nv, overlayValid := false, overlay := false, lock := cell }

/-- The beginning of a start-up (R19, R47, R88, R124, R143, R160, R162, R182, R185). A soft reset keeps the monitor settings,
the session lifetime and the site enables. -/
def State.startUp (soft : Bool) (s : State) : State :=
  let set := s.array.settings.settingsTaken
  let ring := ringAtStart set s.array.generation
  let counter := counterAtStart s.array.counter
  let slots := Vector.ofFn fun i => (s.array.slots[i]).classify (set.geometry.area i)
  let base : State :=
    { power := .starting
      rst := s.rst
      clock := { time := 0, tenths := 0, startupLeft := Config.startupTime, rotLeft := 0 }
      array := s.array
      store := { geometry := set.geometry, slots := slots }
      ring := ring
      lanes := Vector.replicate 4 Lane.initial
      site := { port := PortUnit.initial, flags := if counter.state = .running then 0 else SiteFlag.counter.bit,
                enables := if soft then s.site.enables else 0x7F, resetArm := false, resetTaken := false }
      cipher := { work := none, lastGranted := .site }
      cache := []
      counter := counter
      engine := { active := none, held := none, permit := false, counterRequest := none, genRequest := none,
                  retireRetry := false, lastOutcome := none, lastResume := none,
                  faults := { settings := !s.array.settings.isGood, generation := !ring.live,
                              counter := !s.array.counter.isGood, retireMarks := false },
                  restLeft := 0 }
      protection := { head := protectionAtStart set.headProtect s.array.headCell,
                      tail := protectionAtStart set.tailProtect s.array.tailCell,
                      freeze := set.freeze, wpl := s.protection.wpl }
      siteCode := set.siteCode
      laneEnable := set.laneEnable
      monitor := if soft then s.monitor else Monitor.initial
      sessionLife := if soft then s.sessionLife else 40
      notes := { slotsDamaged := slots.toList.any fun x => x.state == .damaged, genRecordLost := !ring.live,
                 settingsLost := !s.array.settings.isGood, soft := soft }
      draws := s.draws
      pending := s.pending }
  base.alignmentCheck.examineLowWater

end Sys2Proof.Machine
end

