-- ==== Sys2Proof/Machine/Completions.lean ====
section
/-! DEFINITION. The completions of the NV write engine's operations, INTERNAL_WRITE_START and ARRAY_AT_REST (chapters 1, 2, 6, 8,
9 and 10). A completion waits until the active operation has run its remaining time; what the array reports is its operand.
A completion of an operation that is not active is not taken: the state stays (assumption 3). -/

namespace Sys2Proof.Machine

/-! ## Programs and erases -/

/-- A program that did not verify (R9). -/
def State.programFailed (i : SlotIx) (s : State) : State :=
  (s.setSlot i (Slot.cleared .damaged)).outcome .program (.slot i) .programFail false

/-- PROGRAM_ENDED over the fields that the program has written (R7, R9). -/
def State.endProgram (i : SlotIx) (s : State) : State :=
  s.setNvSlot i { marker := .programEnded, fields := (s.slot i).fields, key := (s.slot i).key, checkGood := true }

/-- The slot enters LOADED, and the outcome is PROGRAM_OK (R9). -/
def State.programLoaded (i : SlotIx) (s : State) : State :=
  (s.endProgram i).setSlot i { s.slot i with state := .loaded } |>.outcome .program (.slot i) .programOk true

/-- The ring slot no longer stands for the generation it holds: RETIRED, LOADED_STALE (R9, R29). -/
def State.programStale (i : SlotIx) (s : State) : State :=
  ((s.endProgram i).retireSlots (· == i)).outcome .program (.slot i) .loadedStale true

/-- The end of a program (R9, R29, R36): the slot's state, the outcome, RING_CHANGED inside the window, the advance that a
pending rotation takes, and what the engine does next. -/
def State.finishProgram (i : SlotIx) (verified : Bool) (s : State) : State :=
  if verified = false then (s.programFailed i).endOp.proceed
  else if s.inRing i = false then (s.programLoaded i).endOp.proceed
  else if s.ring.live && s.aligned i then
    let loaded := (s.programLoaded i).endOp
    let told := if s.inWindow i then loaded.flagLanes .ringChanged else loaded
    (if s.ring.rotationPending && s.slotPosition i == 1 then told.advance else told).proceed
  else (s.programStale i).endOp.proceed

/-- PROGRAM_COMPLETE (R9). -/
def execProgramComplete (verified : Bool) (s : State) : Host.Outcome State Fault Refusal :=
  match s.engine.active with
  | some { op := .slotOp (.program i), .. } => .next ((s.wait s.untilComplete).finishProgram i verified)
  | _ => .next s

/-- A target of the erase that is ERASING (R12). -/
def State.beingErased (op : SlotOp) (s : State) (i : SlotIx) : Bool := op.targets i && (s.slot i).state == .erasing

/-- The first slot of a bank. -/
def bankFirst (k : Fin 8) : SlotIx := Fin.ofNat 64 (8 * k.val)

/-- The target that an erase's outcome names: the slot; for a bank its first slot on success and the lowest failed target on
failure (R158). -/
def eraseTarget (op : SlotOp) (lowestFailed : Option SlotIx) : Target :=
  match op, lowestFailed with
  | .eraseBank _, some i => .slot i
  | .eraseBank k, none => .slot (bankFirst k)
  | .eraseSlot i, _ => .slot i
  | .program i, _ => .slot i

/-- The end of an erase (R12, R142): verified targets become BLANK with erased records, failed ones DAMAGED. -/
def State.finishErase (op : SlotOp) (failed : List SlotIx) (s : State) : State :=
  let lowest := allSlots.find? fun i => s.beingErased op i && failed.contains i
  let image := s.mapSlots fun i x =>
    if s.beingErased op i then (if failed.contains i then Slot.cleared .damaged else Slot.empty) else x
  let stored := image.mapNvSlots fun i x => if s.beingErased op i && !failed.contains i then NvSlot.empty else x
  (stored.outcome .erase (eraseTarget op lowest) (if lowest.isSome then .eraseFail else .eraseOk)
    lowest.isNone).endOp.proceed

/-- ERASE_COMPLETE (R12): `failed` are the targets whose records the array reports as not verified. -/
def execEraseComplete (failed : List SlotIx) (s : State) : Host.Outcome State Fault Refusal :=
  match s.engine.active with
  | some { op := .slotOp (.eraseSlot i), .. } => .next ((s.wait s.untilComplete).finishErase (.eraseSlot i) failed)
  | some { op := .slotOp (.eraseBank k), .. } => .next ((s.wait s.untilComplete).finishErase (.eraseBank k) failed)
  | _ => .next s

/-! ## Settings writes -/

/-- SETTINGS joins or leaves the record fault set (R151). -/
def State.faultSettings (v : Bool) (s : State) : State :=
  { s with engine := { s.engine with faults := { s.engine.faults with settings := v } } }

/-- GENERATION joins or leaves the record fault set (R151, R154, R158). -/
def State.faultGeneration (v : Bool) (s : State) : State :=
  { s with engine := { s.engine with faults := { s.engine.faults with generation := v } } }

/-- COUNTER joins or leaves the record fault set (R154, R158). -/
def State.faultCounter (v : Bool) (s : State) : State :=
  { s with engine := { s.engine with faults := { s.engine.faults with counter := v } } }

/-- RETIRE_MARKS joins or leaves the record fault set (R154). -/
def State.faultRetireMarks (v : Bool) (s : State) : State :=
  { s with engine := { s.engine with faults := { s.engine.faults with retireMarks := v } } }

/-- A settings write that completed: the record holds what it carried, SETTINGS leaves the record fault set, the owning block
has applied its value, and the outcome is SETTINGS_OK (R149, R151, R158). -/
def State.settingsDone (c : SettingsCommand) (record : Settings) (apply : State → State) (s : State) : State :=
  ((apply ((s.putSettings (.good record)).faultSettings false)).outcome .settings (.command c) .settingsOk true).endOp.proceed

/-- A settings write that failed: the record reads damaged, nothing is applied, SETTINGS_FAIL (R151). -/
def State.settingsFailed (c : SettingsCommand) (s : State) : State :=
  (((s.putSettings .damaged).faultSettings true).outcome .settings (.command c) .settingsFail false).endOp.proceed

/-- The end of a settings write that writes the settings record alone. -/
def State.finishSettings (c : SettingsCommand) (record : Settings) (apply : State → State) (verified : Bool) (s : State) :
    State :=
  if verified then s.settingsDone c record apply else s.settingsFailed c

/-- SET_ROTATION takes effect (R38). -/
def applyRotation (record : Settings) (s : State) : State :=
  { s with ring := { s.ring with period := record.period }.reload }

/-- SET_ROTATION_COMPLETE (R38). -/
def execSetRotationComplete (verified : Bool) (s : State) : Host.Outcome State Fault Refusal :=
  match s.engine.active with
  | some { op := .settings .rotation record, .. } =>
    .next ((s.wait s.untilComplete).finishSettings .rotation record (applyRotation record) verified)
  | _ => .next s

/-- The cache without the entries whose generation has left the window (R62). -/
def State.trimCache (s : State) : State :=
  { s with cache := s.cache.filter fun e => !s.ring.live || s.ring.inWindow (s.ring.position e.generation) }

/-- SET_WINDOW takes effect: the bounds, the alignment check, the cache and RING_CHANGED (R40, R62). -/
def applyWindow (record : Settings) (s : State) : State :=
  let bounded := { s with ring := { s.ring with back := record.back, ahead := record.ahead } }
  bounded.alignmentCheck.trimCache.flagLanes .ringChanged

/-- SET_WINDOW_COMPLETE (R40). -/
def execSetWindowComplete (verified : Bool) (s : State) : Host.Outcome State Fault Refusal :=
  match s.engine.active with
  | some { op := .settings .window record, .. } =>
    .next ((s.wait s.untilComplete).finishSettings .window record (applyWindow record) verified)
  | _ => .next s

/-- SET_GEOMETRY takes effect (R42): geometry, B, C, h, LIVE, the pending flag, the timer, the withdrawn request, the empty
cache, the closed sessions and RING_CHANGED. -/
def applyGeometry (c0 : Gen) (record : Settings) (s : State) : State :=
  let ring : Ring := { s.ring with live := true, c := c0, h := 0, back := min s.ring.back (record.geometry.ring - 2),
                                   rotationPending := false }
  let placed := { s with store := { s.store with geometry := record.geometry }, ring := ring.reload,
                         engine := { s.engine with genRequest := none }, cache := [] }
  (placed.mapLanes fun x => x.loseSessions fun _ => true).flagLanes .ringChanged

/-- SET_GEOMETRY_COMPLETE (R42): the settings record and the generation record verify together (R150, R151). -/
def execSetGeometryComplete (verified : Bool) (s : State) : Host.Outcome State Fault Refusal :=
  match s.engine.active with
  | some { op := .settings (.geometry c0) record, .. } =>
    let due := s.wait s.untilComplete
    if verified then
      let written := (due.putGeneration (.good { live := true, c := c0, h := 0 })).faultGeneration false
      .next (written.settingsDone (.geometry c0) record (applyGeometry c0 record))
    else .next (((due.putGeneration .damaged).faultGeneration true).settingsFailed (.geometry c0))
  | _ => .next s

/-- The NV protect value of an area in a settings record. -/
def Settings.protect (x : Settings) : FixedArea → Bool
  | .head => x.headProtect
  | .tail => x.tailProtect

/-- SET_PROTECT with the NV option takes effect: the NV value, and the overlay becomes invalid (R167). -/
def applyProtect (a : FixedArea) (record : Settings) (s : State) : State :=
  let x := { s.protection.area a with nv := record.protect a, overlayValid := false }
  { s with protection := s.protection.setArea a x }

/-- SET_PROTECT_NV_COMPLETE (R167). -/
def execSetProtectNvComplete (verified : Bool) (s : State) : Host.Outcome State Fault Refusal :=
  match s.engine.active with
  | some { op := .settings (.protect a) record, .. } =>
    .next ((s.wait s.untilComplete).finishSettings (.protect a) record (applyProtect a record) verified)
  | _ => .next s

/-- LOCK_AREA takes effect: the cell is written and the lock is set (R150, R168). -/
def applyLock (a : FixedArea) (s : State) : State :=
  let celled := s.putCell a true
  { celled with protection := s.protection.setArea a { s.protection.area a with lock := true } }

/-- A LOCK_AREA whose settings record verified and whose cell did not: SETTINGS_FAIL, the record good, SETTINGS not joining
the record fault set (R168, assumption 16). -/
def State.lockCellFailed (a : FixedArea) (record : Settings) (s : State) : State :=
  ((s.putSettings (.good record)).outcome .settings (.command (.lock a)) .settingsFail false).endOp.proceed

/-- LOCK_AREA_COMPLETE (R168). -/
def execLockAreaComplete (recordVerified cellVerified : Bool) (s : State) : Host.Outcome State Fault Refusal :=
  match s.engine.active with
  | some { op := .settings (.lock a) record, .. } =>
    let due := s.wait s.untilComplete
    if recordVerified = false then .next (due.settingsFailed (.lock a))
    else if cellVerified then .next (due.settingsDone (.lock a) record (applyLock a))
    else .next (due.lockCellFailed a record)
  | _ => .next s

/-- SET_FREEZE takes effect (R170). -/
def applyFreeze (record : Settings) (s : State) : State :=
  { s with protection := { s.protection with freeze := record.freeze } }

/-- SET_FREEZE_COMPLETE (R170). -/
def execSetFreezeComplete (verified : Bool) (s : State) : Host.Outcome State Fault Refusal :=
  match s.engine.active with
  | some { op := .settings .freeze record, .. } =>
    .next ((s.wait s.untilComplete).finishSettings .freeze record (applyFreeze record) verified)
  | _ => .next s

/-- SET_SITE takes effect (R178). -/
def applySite (record : Settings) (s : State) : State := { s with siteCode := record.siteCode }

/-- SET_SITE_COMPLETE (R178). -/
def execSetSiteComplete (verified : Bool) (s : State) : Host.Outcome State Fault Refusal :=
  match s.engine.active with
  | some { op := .settings .site record, .. } =>
    .next ((s.wait s.untilComplete).finishSettings .site record (applySite record) verified)
  | _ => .next s

/-- A lane that a SET_LANES disables (R178). -/
def Lane.shut (x : Lane) : Lane :=
  { x.discard with port := { x.port with state := .disabled }, flags := 0, enables := 0 }

/-- A lane that a SET_LANES enables (R178). -/
def Lane.unshut (x : Lane) : Lane :=
  { x with port := { x.port.clearCounts with state := .resync }, flags := 0, enables := 0 }

/-- A lane under an old and a new enabling: one whose enabling does not change keeps its state (R178). -/
def Lane.switch (before after : Bool) (x : Lane) : Lane :=
  if before && !after then x.shut else if !before && after then x.unshut else x

/-- The job in the engine is detached when its lane is disabled (R86, R87). -/
def Cipher.detachShut (before after : BitVec 4) (c : Cipher) : Cipher :=
  allLanes.foldl (fun c l => if before.getLsbD l.val && !after.getLsbD l.val then c.detach l else c) c

/-- SET_LANES takes effect (R178). -/
def applyLanes (record : Settings) (s : State) : State :=
  let switched := s.mapLanesAt fun l x => x.switch (s.laneEnable.getLsbD l.val) (record.laneEnable.getLsbD l.val)
  { switched with laneEnable := record.laneEnable, cipher := s.cipher.detachShut s.laneEnable record.laneEnable }

/-- SET_LANES_COMPLETE (R178). -/
def execSetLanesComplete (verified : Bool) (s : State) : Host.Outcome State Fault Refusal :=
  match s.engine.active with
  | some { op := .settings .lanes record, .. } =>
    .next ((s.wait s.untilComplete).finishSettings .lanes record (applyLanes record) verified)
  | _ => .next s

/-! ## Record writes of the site -/

/-- SET_CURRENT takes effect (R44): C and h, LIVE, the alignment check, the timer and RING_CHANGED. -/
def applyCurrent (c : Gen) (h : Nat) (s : State) : State :=
  let placed := { s with ring := { s.ring with live := true, c := c, h := h } }
  let checked := placed.alignmentCheck
  ({ checked with ring := checked.ring.reload }).flagLanes .ringChanged

/-- SET_CURRENT_COMPLETE (R44, R158). -/
def execSetCurrentComplete (verified : Bool) (s : State) : Host.Outcome State Fault Refusal :=
  match s.engine.active with
  | some { op := .setCurrent i c h, .. } =>
    let due := s.wait s.untilComplete
    if verified then
      let written := (due.putGeneration (.good { live := true, c := c, h := h })).faultGeneration false
      .next (((applyCurrent c h written).outcome .genRecord (.slot i) .recordOk true).endOp.proceed)
    else
      .next ((((due.putGeneration .damaged).faultGeneration true).outcome .genRecord (.slot i) .recordFail false).endOp.proceed)
  | _ => .next s

/-- The counter after a SET_COUNTER that succeeded: RUNNING, or EXHAUSTED with COUNTER set (R123). -/
def applyCounter (base limit : Nat) (s : State) : State :=
  if base = Config.counterTop then
    ({ s with counter := { s.counter with state := .exhausted, next := base, limit := limit, setting := false } }).flagSite
      .counter
  else { s with counter := { s.counter with state := .running, next := base, limit := limit, setting := false } }

/-- SET_COUNTER_COMPLETE (R123, R158). The report and the low-water condition follow a failure too (R120, R123,
assumption 17). -/
def execSetCounterComplete (verified : Bool) (s : State) : Host.Outcome State Fault Refusal :=
  match s.engine.active with
  | some { op := .setCounter base limit, .. } =>
    let due := s.wait s.untilComplete
    if verified then
      let written := (due.putCounter (.good limit)).faultCounter false
      let set := (applyCounter base limit written).report.examineLowWater
      .next ((set.outcome .counterRecord .none .recordOk true).endOp.proceed)
    else
      let spoilt := (due.putCounter .damaged).faultCounter true
      let kept := ({ spoilt with counter := { spoilt.counter with setting := false } }).report.examineLowWater
      .next ((kept.outcome .counterRecord .none .recordFail false).endOp.proceed)
  | _ => .next s

/-! ## Internal record writes -/

/-- A failed generation-record write that was not a retry is requested once more with the values then current; it joins a
request that is already outstanding, which keeps its values and its retry mark clear (R46, R154). -/
def State.retryGenRecord (s : State) : State :=
  match s.engine.genRequest with
  | some _ => s
  | none => { s with engine := { s.engine with genRequest := some { c := s.ring.c, h := s.ring.h, retry := true } } }

/-- GEN_RECORD_COMPLETE (R45, R46, R154). -/
def execGenRecordComplete (verified : Bool) (s : State) : Host.Outcome State Fault Refusal :=
  match s.engine.active with
  | some { op := .genRecord c h retry, .. } =>
    let due := (s.wait s.untilComplete).endOp
    if verified then
      .next ((due.putGeneration (.good { live := true, c := c, h := h })).faultGeneration false).proceed
    else
      let spoilt := due.putGeneration .damaged
      if retry then .next ((spoilt.faultGeneration true).flagSite .nvFailed).proceed
      else .next spoilt.retryGenRecord.proceed
  | _ => .next s

/-- RESERVATION_COMPLETE (R118, R119, R154). -/
def execReservationComplete (verified : Bool) (s : State) : Host.Outcome State Fault Refusal :=
  match s.engine.active with
  | some { op := .reservation limit retry, .. } =>
    let due := (s.wait s.untilComplete).endOp
    if verified then
      let written := (due.putCounter (.good limit)).faultCounter false
      let raised := { written with counter := { written.counter with limit := limit, reserving := false } }
      .next raised.report.examineLowWater.proceed
    else
      let spoilt := due.putCounter .damaged
      if retry then
        let given := { spoilt.faultCounter true with counter := { spoilt.counter with reserving := false } }
        .next ((given.flagSite .nvFailed).report).proceed
      else
        let again : CounterRequest := { limit := limit, retry := true }
        .next ({ spoilt with engine := { spoilt.engine with counterRequest := some again } }).proceed
  | _ => .next s

/-- The slots taken leave the retire-mark set (R14). -/
def State.dropMarks (taken : List SlotIx) (s : State) : State :=
  s.mapSlots fun i x => if taken.contains i then { x with markPending := false } else x

/-- RETIRE_MARKED in the NV record of every slot taken (R14). -/
def State.writeMarks (taken : List SlotIx) (s : State) : State :=
  s.mapNvSlots fun i x => if taken.contains i then x.marked else x

/-- RETIRE_MARK_COMPLETE (R14, R154). A failure that is no retry makes the request outstanding again, with its retry mark set
unless slots that joined meanwhile have already made it outstanding. -/
def execRetireMarkComplete (verified : Bool) (s : State) : Host.Outcome State Fault Refusal :=
  match s.engine.active with
  | some { op := .retireMarks taken retry, .. } =>
    let waited := s.wait s.untilComplete
    let joined := waited.retireOutstanding
    let due := waited.endOp
    if verified then .next (((due.writeMarks taken).dropMarks taken).faultRetireMarks false).proceed
    else
      let scattered := due.scatterMarks taken
      if retry then .next (((scattered.dropMarks taken).faultRetireMarks true).flagSite .nvFailed).proceed
      else .next ({ scattered with engine := { scattered.engine with retireRetry := !joined } }).proceed
  | _ => .next s

/-- INTERNAL_WRITE_START (R152, R153): an outstanding request starts when the engine is IDLE, or when a site erase is active
with nothing held, which is then held by AUTO. -/
def execInternalWriteStart (s : State) : Host.Outcome State Fault Refusal :=
  if s.power = .running ∧ s.requestOutstanding then
    match s.engine.active with
    | none => .next s.startInternal
    | some a => if a.isErase && s.engine.held.isNone then .next (s.holdActive .auto).startInternal else .next s
  else .next s

/-- ARRAY_AT_REST (R146): the array comes to rest, and the remaining time of the active operation begins to fall. -/
def execArrayAtRest (s : State) : Host.Outcome State Fault Refusal := .next (s.wait s.engine.restLeft)

end Sys2Proof.Machine
end

