-- ==== Sys2Proof/Machine/Reports.lean ====
section
/-! DEFINITION. What the part shows on its ports: the code bytes, the enumerations and the byte layouts of section 10.7
(R186), the STATUS frames, the slot report and the result record. -/

namespace Sys2Proof.Machine

/-! ## Codes -/

/-- The code byte of a status, result or outcome (R186). -/
def Code.byte : Code → Byte
  | .ok => 0x00 | .accepted => 0x01 | .queued => 0x02 | .noResult => 0x03
  | .starting => 0x08 | .notSynced => 0x09 | .portHalted => 0x0A | .portDisabled => 0x0B
  | .identityMismatch => 0x0C | .checkFail => 0x0D | .unknownCommand => 0x0E | .badLength => 0x0F
  | .noPermit => 0x10 | .busy => 0x11 | .suspended => 0x12 | .areaProtected => 0x13 | .locked => 0x14
  | .frozen => 0x15 | .badArgument => 0x16 | .badArea => 0x17 | .resetNotArmed => 0x18
  | .badSlot => 0x20 | .badPosition => 0x21 | .ringUnset => 0x22 | .notBlank => 0x23 | .badUsage => 0x24
  | .manifestMismatch => 0x25 | .notLoaded => 0x26 | .inService => 0x27 | .nextNotLoaded => 0x28
  | .notPending => 0x29 | .windowConflict => 0x2A | .badGeometry => 0x2B | .ringInUse => 0x2C
  | .areaInUse => 0x2D | .ringLive => 0x2E | .genMissing => 0x2F
  | .counterBelow => 0x30 | .notSuspendable => 0x31 | .alreadySuspended => 0x32 | .tooSoon => 0x33
  | .notSuspended => 0x34 | .badKind => 0x38 | .queueFull => 0x39
  | .pass => 0x40 | .fail => 0x41 | .expired => 0x42 | .noGeneration => 0x43 | .tooOld => 0x44
  | .tooNew => 0x45 | .genRetired => 0x46 | .laneDenied => 0x47 | .sessionUnknown => 0x48
  | .sessionState => 0x49 | .badKeySlot => 0x4A | .counterUnset => 0x4B | .counterExhausted => 0x4C
  | .programOk => 0x50 | .loadedStale => 0x51 | .programFail => 0x52 | .kcvMismatch => 0x53
  | .transportGone => 0x54 | .eraseOk => 0x55 | .eraseFail => 0x56 | .settingsOk => 0x57
  | .settingsFail => 0x58 | .recordOk => 0x59 | .recordFail => 0x5A

/-- A flag in one byte, 01h or 00h (R174, R186). -/
def flagByte (b : Bool) : Byte := if b then 1 else 0

/-- Slot state byte. -/
def SlotState.byte : SlotState → Byte
  | .blank => 0 | .programming => 1 | .loaded => 2 | .retired => 3 | .erasing => 4 | .damaged => 5

/-- Area byte of SLOT_INFO. -/
def Area.byte : Area → Byte
  | .head => 1 | .ring => 2 | .tail => 3

/-- Area byte of SET_PROTECT and LOCK_AREA. -/
def FixedArea.byte : FixedArea → Byte
  | .head => 1 | .tail => 2

/-- Usage byte (R126). -/
def Usage.byte : Usage → Byte
  | .tagRoot => 1 | .receipt => 2 | .transport => 3

/-- Port state byte. -/
def PortState.byte : PortState → Byte
  | .starting => 0 | .resync => 1 | .ready => 2 | .halted => 3 | .disabled => 4

/-- Counter state byte. -/
def CounterState.byte : CounterState → Byte
  | .unset => 0 | .running => 1 | .exhausted => 2

/-- Job kind byte. -/
def JobKind.byte : JobKind → Byte
  | .answer => 1 | .verify => 2 | .seal => 3

/-- Outcome kind byte. -/
def OutcomeKind.byte : OutcomeKind → Byte
  | .program => 1 | .erase => 2 | .settings => 3 | .genRecord => 4 | .counterRecord => 5

/-- The command code of a settings command. -/
def SettingsCommand.byte : SettingsCommand → Byte
  | .geometry _ => 0x34 | .window => 0x33 | .rotation => 0x32 | .protect _ => 0x38 | .lock _ => 0x39
  | .freeze => 0x3A | .site => 0x3B | .lanes => 0x3C

/-- Target byte: a slot index or bank number, a settings command code, or FFh for none. -/
def Target.byte : Target → Byte
  | .slot i => BitVec.ofNat 8 i.val
  | .bank k => BitVec.ofNat 8 k.val
  | .command c => c.byte
  | .none => 0xFF

/-- Operation kind byte of a program or erase. -/
def SlotOp.byte : SlotOp → Byte
  | .program _ => 2 | .eraseSlot _ => 3 | .eraseBank _ => 4

/-- The target of a program or erase. -/
def SlotOp.target : SlotOp → Target
  | .program i => .slot i
  | .eraseSlot i => .slot i
  | .eraseBank k => .bank k

/-- Operation kind byte. -/
def Operation.byte : Operation → Byte
  | .load _ => 1 | .slotOp op => op.byte | .settings _ _ => 5 | .setCurrent _ _ _ => 6 | .genRecord _ _ _ => 6
  | .setCounter _ _ => 7 | .reservation _ _ => 7 | .retireMarks _ _ => 8

/-- The target of an operation; a record write has none (assumption 20). -/
def Operation.target : Operation → Target
  | .load l => .slot l.slot
  | .slotOp op => op.target
  | .settings c _ => .command c
  | _ => .none

/-- An operation started from an internal request: origin INTERNAL, otherwise SITE (R143). -/
def Operation.internal : Operation → Bool
  | .reservation _ _ => true
  | .genRecord _ _ _ => true
  | .retireMarks _ _ => true
  | _ => false

/-- Who holds, as a byte. -/
def HeldBy.byte : HeldBy → Byte
  | .site => 1 | .auto => 2

/-- Engine state byte: IDLE, PREPARING or BUSY, a function of the active operation (R144). -/
def State.engineByte (s : State) : Byte :=
  match s.engine.active with
  | none => 0
  | some { op := .load _, .. } => 1
  | some _ => 2

/-! ## Widths -/

/-- A generation in two bytes, its upper four bits zero. -/
def genBytes (g : Gen) : List Byte := beBytes 2 g.toNat

/-- A position in two bytes, two's complement. -/
def positionBytes (p : Int) : List Byte := beBytes 2 (BitVec.ofInt 16 p).toNat

/-- A small number in one byte. -/
def numByte (n : Nat) : Byte := BitVec.ofNat 8 n

/-! ## Reports -/

/-- The result record (section 10.7). -/
def Result.bytes (r : Result) : List Byte :=
  [r.jobTag, r.kind.byte, r.code.byte] ++
  match r.extra with
  | .none => []
  | .answer handle nr proof => [handle] ++ beBytes 8 nr.toNat ++ beBytes 8 proof.toNat
  | .seal number tag => beBytes 4 number ++ beBytes 8 tag.toNat

/-- The SLOT_INFO payload of slot `i`, 14 bytes (R18, section 10.7). Absent fields are sent as 00h. -/
def State.slotReport (s : State) (i : SlotIx) : List Byte :=
  let x := s.slot i
  let placed := s.ring.live && s.inRing i
  let presence := (if x.fields.isSome then 1 else 0) + (if x.generation.isSome then 2 else 0) + (if placed then 4 else 0)
  [numByte i.val, x.state.byte, (s.areaOf i).byte, numByte presence] ++
  [match x.fields with | some f => f.usage.byte | none => 0,
   match x.fields with | some f => f.laneMask.setWidth 8 | none => 0] ++
  (match x.generation with | some g => genBytes g | none => [0, 0]) ++
  (match x.fields with | some f => beBytes 3 f.checkValue.toNat | none => [0, 0, 0]) ++
  (if placed then positionBytes (s.slotPosition i) else [0, 0]) ++ [flagByte x.markPending]

/-- The lane STATUS payload, 12 bytes (R183, section 10.7). -/
def State.laneStatus (s : State) (l : LaneIx) : List Byte :=
  let x := s.lane l
  [x.port.state.byte, numByte x.jobs.length, numByte x.results.length, numByte x.openSessions,
   flagByte x.counterWait, flagByte s.ring.live] ++ genBytes s.ring.c ++
  [numByte s.ring.back, numByte s.ring.ahead, x.flagsRead.setWidth 8, x.enables.setWidth 8]

/-- The active operation in site STATUS, bytes 20 to 24. What the spec does not state of an absent operation, and the remaining
time of a LOAD in PREPARING, is free (assumption 7). -/
def State.activeReport (s : State) : List Byte :=
  match s.engine.active with
  | none => [0, numByte (Config.unstated .originWhenIdle), Target.none.byte] ++
      beBytes 2 (Config.unstated .remainingWhenIdle)
  | some a =>
    [a.op.byte, if a.op.internal then 2 else 1, a.op.target.byte] ++
    match a.op with
    | .load _ => beBytes 2 (Config.unstated .remainingPreparing)
    | _ => beBytes 2 a.remaining

/-- The held operation in site STATUS, bytes 25 to 29 (assumption 7). -/
def State.heldReport (s : State) : List Byte :=
  match s.engine.held with
  | none => [0, numByte (Config.unstated .heldByWhenNone), Target.none.byte] ++
      beBytes 2 (Config.unstated .remainingWhenNone)
  | some x => [x.op.byte, x.by_.byte, x.op.target.byte] ++ beBytes 2 x.remaining

/-- Up to eight flags in one byte, bit 0 first. -/
def bitsByte (bits : List Bool) : Byte :=
  numByte (bits.foldr (fun b acc => (if b then 1 else 0) + 2 * acc) 0)

/-- The site STATUS payload, 55 bytes (R183, section 10.7). -/
def State.siteStatus (s : State) : List Byte :=
  [flagByte s.ring.live] ++ genBytes s.ring.c ++ [numByte s.ring.h] ++
  [numByte s.store.geometry.head, numByte s.store.geometry.ring, numByte s.store.geometry.tail,
   numByte s.ring.back, numByte s.ring.ahead] ++
  beBytes 4 s.ring.period ++ beBytes 4 s.ring.remaining ++
  [bitsByte [s.ring.rotationPending, s.engine.permit, s.protection.wpl, s.protection.freeze], s.engineByte] ++
  s.activeReport ++ s.heldReport ++
  (match s.engine.lastOutcome with
   | some o => [o.kind.byte, o.target.byte, o.code.byte]
   | none => [0, 0, 0]) ++
  [bitsByte [s.engine.faults.settings, s.engine.faults.generation, s.engine.faults.counter,
             s.engine.faults.retireMarks], s.counter.state.byte] ++
  (if s.counter.state = .unset then [0, 0, 0, 0, 0, 0, 0, 0]
   else beBytes 4 s.counter.next ++ beBytes 4 s.counter.limit) ++
  [bitsByte [s.protection.head.effective, s.protection.tail.effective, s.protection.head.lock, s.protection.tail.lock],
   bitsByte [s.notes.slotsDamaged, s.notes.genRecordLost, s.notes.settingsLost, s.notes.soft],
   s.site.flags.setWidth 8, s.site.enables.setWidth 8] ++
  (allLanes.map fun l => (s.lane l).port.state.byte) ++ [s.laneEnable.setWidth 8] ++
  beBytes 2 s.siteCode.toNat ++ [numByte s.cache.length, numByte s.sessionLife]

/-! ## Response frames -/

/-- The check byte that makes the sum of a frame's bytes 0 modulo 256 (R174). -/
def checkByte (bytes : List Byte) : Byte := 0 - bytes.foldl (· + ·) 0

/-- A response as clocked out on data-out: status, length, payload, check byte (R174). -/
def Response.frame (r : Response) : List Byte :=
  let body := [r.status.byte, numByte r.payload.length] ++ r.payload
  body ++ [checkByte body]

end Sys2Proof.Machine
end

