-- ==== Sys2Proof/WellFormed.lean ====
section
/-! DEFINITION. Which terms of `Instr` are commands that the outside can send. `exec` is defined on every term; these
checks say which of them a request frame or an event of the part can give. -/

namespace Sys2Proof

/-- The command codes available on a lane port (R186). -/
def laneCodes : List Byte := [0x01, 0x02, 0x03, 0x04, 0x10, 0x11]

/-- The command codes available on the site port (R186). -/
def siteCodes : List Byte :=
  [0x01, 0x02, 0x03, 0x04, 0x20, 0x21, 0x22, 0x23, 0x24, 0x25, 0x26, 0x27] ++
  [0x30, 0x31, 0x32, 0x33, 0x34, 0x35, 0x36, 0x37, 0x38, 0x39, 0x3A, 0x3B, 0x3C] ++
  [0x40, 0x41, 0x42, 0x43, 0x44]

/-- A command code is assigned and available on a port (order 3 of R175, R186). -/
def codeAvailable : Port → Byte → Bool
  | .lane _, code => laneCodes.contains code
  | .site, code => siteCodes.contains code

/-- A payload no longer than a length byte may name; a longer frame is the row FRAME_ERROR (order 1 of R175). -/
def payloadFits (payload : List Byte) : Bool := payload.length ≤ Config.payloadMax

/-- The option byte of a SET_PROTECT payload of three bytes, 01h for the NV option (R165). -/
def protectOption (payload : List Byte) : Bool :=
  match payload with
  | [_, _, option] => option == 0x01
  | _ => false

/-- The well-formed commands. -/
def Instr.wellFormed : Instr → Bool
  | .unknownCommand port code => !codeAvailable port code
  | .sync _ payload => payloadFits payload
  | .status _ payload => payloadFits payload
  | .setEvents _ payload => payloadFits payload
  | .ackEvents _ payload => payloadFits payload
  | .submit _ payload => payloadFits payload
  | .fetch _ payload => payloadFits payload
  | .permit payload => payloadFits payload
  | .load payload => payloadFits payload
  | .eraseSlot payload => payloadFits payload
  | .eraseBank payload => payloadFits payload
  | .retire payload => payloadFits payload
  | .slotInfo payload => payloadFits payload
  | .suspend payload => payloadFits payload
  | .resume payload => payloadFits payload
  | .advance payload => payloadFits payload
  | .cancelRotation payload => payloadFits payload
  | .setRotation payload => payloadFits payload
  | .setWindow payload => payloadFits payload
  | .setGeometry payload => payloadFits payload
  | .setCurrent payload => payloadFits payload
  | .setCounter payload => payloadFits payload
  | .setSessionLife payload => payloadFits payload
  | .setProtectVolatile payload => payloadFits payload && !protectOption payload
  | .setProtectNv payload => payloadFits payload && protectOption payload
  | .lockArea payload => payloadFits payload
  | .setFreeze payload => payloadFits payload
  | .setSite payload => payloadFits payload
  | .setLanes payload => payloadFits payload
  | .setPortMonitor payload => payloadFits payload
  | .readCounts payload => payloadFits payload
  | .clearCounts payload => payloadFits payload
  | .resetArm payload => payloadFits payload
  | .reset payload => payloadFits payload
  | .eraseComplete failed => decide failed.Nodup
  | .powerOn | .powerLoss | .rstAssert | .rstRelease | .softReset | .startupEnd => true
  | .wplChange _ | .frameError _ _ | .checkFail _ | .jobLapse _ _ | .grant => true
  | .answerCompletion | .verifyCompletion | .sealCompletion | .unwrapCompletion => true
  | .sessionExpiry _ _ | .rotPulseEnd | .rotationTimerExpiry => true
  | .programComplete _ | .setRotationComplete _ | .setWindowComplete _ => true
  | .setGeometryComplete _ | .setProtectNvComplete _ | .lockAreaComplete _ _ => true
  | .setFreezeComplete _ | .setSiteComplete _ | .setLanesComplete _ => true
  | .setCurrentComplete _ | .setCounterComplete _ | .genRecordComplete _ => true
  | .reservationComplete _ | .retireMarkComplete _ | .internalWriteStart | .arrayAtRest => true

/-- The port, the command code and the payload of a command that is a request frame of an assigned code (R186). -/
def Instr.request : Instr → Option (Port × Byte × List Byte)
  | .sync p payload => some (p, 0x01, payload)
  | .status p payload => some (p, 0x02, payload)
  | .setEvents p payload => some (p, 0x03, payload)
  | .ackEvents p payload => some (p, 0x04, payload)
  | .submit l payload => some (.lane l, 0x10, payload)
  | .fetch l payload => some (.lane l, 0x11, payload)
  | .permit payload => some (.site, 0x20, payload)
  | .load payload => some (.site, 0x21, payload)
  | .eraseSlot payload => some (.site, 0x22, payload)
  | .eraseBank payload => some (.site, 0x23, payload)
  | .retire payload => some (.site, 0x24, payload)
  | .slotInfo payload => some (.site, 0x25, payload)
  | .suspend payload => some (.site, 0x26, payload)
  | .resume payload => some (.site, 0x27, payload)
  | .advance payload => some (.site, 0x30, payload)
  | .cancelRotation payload => some (.site, 0x31, payload)
  | .setRotation payload => some (.site, 0x32, payload)
  | .setWindow payload => some (.site, 0x33, payload)
  | .setGeometry payload => some (.site, 0x34, payload)
  | .setCurrent payload => some (.site, 0x35, payload)
  | .setCounter payload => some (.site, 0x36, payload)
  | .setSessionLife payload => some (.site, 0x37, payload)
  | .setProtectVolatile payload => some (.site, 0x38, payload)
  | .setProtectNv payload => some (.site, 0x38, payload)
  | .lockArea payload => some (.site, 0x39, payload)
  | .setFreeze payload => some (.site, 0x3A, payload)
  | .setSite payload => some (.site, 0x3B, payload)
  | .setLanes payload => some (.site, 0x3C, payload)
  | .setPortMonitor payload => some (.site, 0x40, payload)
  | .readCounts payload => some (.site, 0x41, payload)
  | .clearCounts payload => some (.site, 0x42, payload)
  | .resetArm payload => some (.site, 0x43, payload)
  | .reset payload => some (.site, 0x44, payload)
  | .powerOn | .powerLoss | .rstAssert | .rstRelease | .softReset | .startupEnd | .wplChange _ => none
  | .frameError _ _ | .checkFail _ | .unknownCommand _ _ | .jobLapse _ _ | .grant => none
  | .answerCompletion | .verifyCompletion | .sealCompletion | .unwrapCompletion | .sessionExpiry _ _ => none
  | .rotPulseEnd | .rotationTimerExpiry | .programComplete _ | .eraseComplete _ => none
  | .setRotationComplete _ | .setWindowComplete _ | .setGeometryComplete _ | .setProtectNvComplete _ => none
  | .lockAreaComplete _ _ | .setFreezeComplete _ | .setSiteComplete _ | .setLanesComplete _ => none
  | .setCurrentComplete _ | .setCounterComplete _ | .genRecordComplete _ | .reservationComplete _ => none
  | .retireMarkComplete _ | .internalWriteStart | .arrayAtRest => none

/-- The command is a SYNC, the one command that RESYNC and HALTED admit (R176). -/
def Instr.isSync : Instr → Bool
  | .sync _ _ => true
  | _ => false

end Sys2Proof
end

