-- ==== Sys2Proof/Machine/Frames.lean ====
section
/-! DEFINITION. Transactions (R174, R175): the reading of a request frame into the row of the table that it is, the examination
that every port command passes, and the meanings of FRAME_ERROR, CHECK_FAIL and UNKNOWN_COMMAND. -/

namespace Sys2Proof.Machine

/-- What a command's own rule makes: the state after it and the response. -/
abbrev Reply := State × Response

/-- Answer with a status and a payload. -/
def reply (c : Code) (payload : List Byte) (s : State) : Reply := (s, { status := c, payload := payload })

/-- Refuse: change nothing and answer a status without payload. -/
def refuse (c : Code) (s : State) : Reply := reply c [] s

/-- A checked-good frame on the site port clears the reset-arm flag (R184). -/
def State.disarm (p : Port) (s : State) : State :=
  match p with
  | .lane _ => s
  | .site => { s with site := { s.site with resetArm := false } }

/-- What a port answers to a frame it does not examine: STARTING or PORT_DISABLED when the place of the check byte is
reached (R175), nothing without power or in reset (R185). `none` when the port examines frames. -/
def State.unexamined (p : Port) (s : State) : Option (Option Response) :=
  match s.power with
  | .off => some none
  | .held => some none
  | .starting => some (some { status := .starting, payload := [] })
  | .running =>
    match (s.port p).state with
    | .starting => some (some { status := .starting, payload := [] })
    | .disabled => some (some { status := .portDisabled, payload := [] })
    | _ => none

/-- The refusal of order 5 of R175: what a port state that admits SYNC alone answers to another command (R176). -/
def PortState.refusal (syncing : Bool) (st : PortState) : Option Code :=
  if syncing then none
  else
    match st with
    | .resync => some .notSynced
    | .halted => some .portHalted
    | _ => none

/-- A port command whose frame is complete (R175): the port examines it in the order of the table and, when it is admitted,
the command's own rule is taken. `args` is the parsed payload, `none` when its length is not the command's. -/
def State.command {α : Type} (p : Port) (syncing : Bool) (payload : List Byte) (args : Option α)
    (rule : α → State → Reply) (s : State) : State :=
  match s.unexamined p with
  | some r => s.answer p r
  | none =>
    if Config.payloadMax < payload.length then (s.countError p .frame).answer p none
    else
      let good := s.disarm p
      match args with
      | none => (good.countError p .command).answer p (some { status := .badLength, payload := [] })
      | some a =>
        match (s.port p).state.refusal syncing with
        | some c => good.answer p (some { status := c, payload := [] })
        | none =>
          let r := rule a good
          r.1.answer p (some r.2)

/-- FRAME_ERROR (R175): dropped and counted; a STARTING or DISABLED port counts nothing, and answers only a frame whose
check byte position is reached. -/
def execFrameError (p : Port) (how : FrameFault) (s : State) : Host.Outcome State Fault Refusal :=
  match s.unexamined p with
  | some r => .next (s.answer p (if how = .overlong true then r else none))
  | none => .next ((s.countError p .frame).answer p none)

/-- CHECK_FAIL (R175): a complete frame whose byte sum is not 0. -/
def execCheckFail (p : Port) (s : State) : Host.Outcome State Fault Refusal :=
  match s.unexamined p with
  | some r => .next (s.answer p r)
  | none => .next ((s.countError p .check).answer p (some { status := .checkFail, payload := [] }))

/-- UNKNOWN_COMMAND (R175): a checked-good frame whose code is unassigned or not available on the port; on the site port it
clears the reset-arm flag (R184). -/
def execUnknownCommand (p : Port) (_code : Byte) (s : State) : Host.Outcome State Fault Refusal :=
  match s.unexamined p with
  | some r => .next (s.answer p r)
  | none => .next (((s.disarm p).countError p .command).answer p (some { status := .unknownCommand, payload := [] }))

/-! ## Reading a request frame -/

/-- The command of a code on the site port (R186). -/
def siteCommandOf (code : Byte) (payload : List Byte) : Option Instr :=
  match code.toNat with
  | 0x01 => some (.sync .site payload)
  | 0x02 => some (.status .site payload)
  | 0x03 => some (.setEvents .site payload)
  | 0x04 => some (.ackEvents .site payload)
  | 0x20 => some (.permit payload)
  | 0x21 => some (.load payload)
  | 0x22 => some (.eraseSlot payload)
  | 0x23 => some (.eraseBank payload)
  | 0x24 => some (.retire payload)
  | 0x25 => some (.slotInfo payload)
  | 0x26 => some (.suspend payload)
  | 0x27 => some (.resume payload)
  | 0x30 => some (.advance payload)
  | 0x31 => some (.cancelRotation payload)
  | 0x32 => some (.setRotation payload)
  | 0x33 => some (.setWindow payload)
  | 0x34 => some (.setGeometry payload)
  | 0x35 => some (.setCurrent payload)
  | 0x36 => some (.setCounter payload)
  | 0x37 => some (.setSessionLife payload)
  | 0x38 => some (if protectOption payload then .setProtectNv payload else .setProtectVolatile payload)
  | 0x39 => some (.lockArea payload)
  | 0x3A => some (.setFreeze payload)
  | 0x3B => some (.setSite payload)
  | 0x3C => some (.setLanes payload)
  | 0x40 => some (.setPortMonitor payload)
  | 0x41 => some (.readCounts payload)
  | 0x42 => some (.clearCounts payload)
  | 0x43 => some (.resetArm payload)
  | 0x44 => some (.reset payload)
  | _ => none

/-- The command of a code on lane port `l` (R186). -/
def laneCommandOf (l : LaneIx) (code : Byte) (payload : List Byte) : Option Instr :=
  match code.toNat with
  | 0x01 => some (.sync (.lane l) payload)
  | 0x02 => some (.status (.lane l) payload)
  | 0x03 => some (.setEvents (.lane l) payload)
  | 0x04 => some (.ackEvents (.lane l) payload)
  | 0x10 => some (.submit l payload)
  | 0x11 => some (.fetch l payload)
  | _ => none

/-- The command of a code on a port. -/
def commandOf (p : Port) (code : Byte) (payload : List Byte) : Option Instr :=
  match p with
  | .lane l => laneCommandOf l code payload
  | .site => siteCommandOf code payload

/-- The row of the table that a select period is, given the bytes clocked in and whether select was released on a byte
boundary (R174, R175). Bytes after the check byte are ignored. -/
def receive (p : Port) (bytes : List Byte) (onBoundary : Bool) : Instr :=
  let cut := if onBoundary then FrameFault.cutShort else FrameFault.offBoundary
  match bytes with
  | code :: n :: rest =>
    if Config.payloadMax < n.toNat then .frameError p (.overlong (decide (n.toNat + 1 ≤ rest.length)))
    else if rest.length < n.toNat + 1 then .frameError p cut
    else if (code :: n :: rest.take (n.toNat + 1)).foldl (· + ·) 0 ≠ (0 : Byte) then .checkFail p
    else
      match commandOf p code (rest.take n.toNat) with
      | some c => c
      | none => .unknownCommand p code
  | _ => .frameError p cut

end Sys2Proof.Machine
end

