-- ==== Sys2Proof/Machine/Keys.lean ====
section
/-! DEFINITION. The site commands on keys and on the write engine (chapters 1, 7 and 8): PERMIT, LOAD, ERASE_SLOT, ERASE_BANK,
RETIRE, SLOT_INFO, SUSPEND and RESUME, and UNWRAP_COMPLETION. -/

namespace Sys2Proof.Machine

/-! ## PERMIT -/

/-- PERMIT (R147). -/
def execPermit (payload : List Byte) (s : State) : Host.Outcome State Fault Refusal :=
  .next (s.command .site false payload (argByte payload) fun b s =>
    let permit := b != 0
    reply .ok [flagByte permit] { s with engine := { s.engine with permit := permit } })

/-! ## LOAD -/

/-- Check 3 of LOAD: the target slot, or the refusal (R129). -/
def State.loadTarget (a : LoadArgs) (s : State) : Except Code SlotIx :=
  if a.targetKind = 0x01 then
    if s.ring.live = false then .error .ringUnset
    else if 16 ≤ a.targetHigh.toNat then .error .badPosition
    else
      let p := s.ring.position (a.target.setWidth 12)
      if s.ring.inRange s.store.geometry p then .ok (s.ring.slotAt s.store.geometry p) else .error .badPosition
  else if a.targetKind = 0x02 then
    if a.targetHigh ≠ 0 then .error .badSlot
    else
      match slotIndexOf a.targetLow with
      | none => .error .badSlot
      | some i => if s.areaOf i = .ring then .error .badSlot else .ok i
  else .error .badSlot

/-- Check 2 of LOAD (R128): `none` when the engine can take the load. -/
def State.loadEngineCheck (a : LoadArgs) (s : State) : Option Code :=
  if !s.idle then some .busy
  else
    match s.engine.held with
    | none => none
    | some { op := .program _, .. } => some .suspended
    | some { op := op, .. } =>
      match s.loadTarget a with
      | .ok i => if op.targets i then some .suspended else none
      | .error _ => none

/-- The refusal that protection of a slot's area makes: LOCKED when the area is locked, PROTECTED when it is only protected
(R164). -/
def State.protectionRefusal (i : SlotIx) (s : State) : Option Code :=
  if s.lockedSlot i then some .locked else if s.protectedSlot i then some .areaProtected else none

/-- The usage that applies to a LOAD: TAG_ROOT for a RING target, otherwise RECEIPT or TRANSPORT as the byte names
(R126, R130). -/
def LoadArgs.usageApplied (a : LoadArgs) : Option Usage :=
  if a.isRing then some .tagRoot
  else
    match usageOf a.usage with
    | some .receipt => some .receipt
    | some .transport => some .transport
    | _ => none

/-- Check 7 of LOAD (R131): the transport source, `none` inside for a plaintext commissioning load. -/
def State.transportSource (a : LoadArgs) (u : Usage) (s : State) : Option (Option SlotIx) :=
  if a.transport = 0xFF then
    if !a.isRing && u == .transport && !(allSlots.any fun i => (s.slot i).serves .transport) then some none else none
  else
    match slotIndexOf a.transport with
    | some i => if (s.slot i).serves .transport then some (some i) else none
    | none => none

/-- The manifest sum of R132, modulo 256. -/
def State.manifest (a : LoadArgs) (s : State) : Byte :=
  a.targetHigh + a.targetLow + (if a.isRing then 0x01 else a.usage) + a.laneMask + a.kcvBytes.foldl (· + ·) 0 +
    numByte s.store.geometry.ring + numByte s.store.geometry.head

/-- The checks of LOAD in the order of R127: the load that is accepted, or the refusal. -/
def State.checkLoad (a : LoadArgs) (s : State) : Except Code Load :=
  if s.engine.permit = false then .error .noPermit
  else
    match s.loadEngineCheck a with
    | some c => .error c
    | none =>
      match s.loadTarget a with
      | .error c => .error c
      | .ok i =>
        match s.protectionRefusal i with
        | some c => .error c
        | none =>
          if (s.slot i).state ≠ .blank then .error .notBlank
          else
            match a.usageApplied with
            | none => .error .badUsage
            | some u =>
              if 16 ≤ a.laneMask.toNat then .error .badUsage
              else
                match s.transportSource a u with
                | none => .error .badUsage
                | some source =>
                  if a.manifest ≠ s.manifest a then .error .manifestMismatch
                  else
                    .ok { slot := i, generation := if a.isRing then some (a.target.setWidth 12) else none, usage := u,
                          laneMask := a.laneMask.setWidth 4, transport := source, wrapped := a.wrapped, iv := a.iv,
                          kcv := a.kcv }

/-- The rule of LOAD (R127, R133). -/
def loadRule (a : LoadArgs) (s : State) : Reply :=
  match s.checkLoad a with
  | .error c => refuse c s
  | .ok load =>
    let position := match load.generation with | some g => positionBytes (s.ring.position g) | none => []
    reply .accepted ([numByte load.slot.val] ++ position) (s.spendPermit.startOp (.load load) 0)

/-- LOAD (R127). -/
def execLoad (payload : List Byte) (s : State) : Host.Outcome State Fault Refusal :=
  .next (s.command .site false payload (argLoad payload) loadRule)

/-! ## UNWRAP_COMPLETION -/

/-- The fields that a LOAD gives its slot (R8). -/
def Load.fields (l : Load) : SlotFields :=
  { generation := l.generation, usage := l.usage, laneMask := l.laneMask, checkValue := l.kcv }

/-- The start of a program (R8): the slot enters PROGRAMMING with its fields, PROGRAM_BEGUN is written, and the program is
active. -/
def State.beginProgram (l : Load) (key : Block) (s : State) : State :=
  let entered := s.setSlot l.slot { state := .programming, fields := some l.fields, key := key, markPending := false }
  (entered.setNvSlot l.slot { marker := .programBegun, fields := none, key := 0, checkGood := true }).startOp
    (.slotOp (.program l.slot)) Config.programTime

/-- UNWRAP_COMPLETION (R134 to R136): the check value of the unwrapped key is compared with the KCV. -/
def execUnwrapCompletion (s : State) : Host.Outcome State Fault Refusal :=
  match s.cipher.work with
  | some { left := left, task := .unwrap load kx, .. } =>
    let due := s.elapse left
    let freed := { due with cipher := { due.cipher with work := none } }
    let key := match kx with | some k => unwrapped k load.wrapped load.iv | none => load.wrapped
    if checkValueOf key = load.kcv then .next (freed.beginProgram load key)
    else .next (freed.endOp.outcome .program (.slot load.slot) .kcvMismatch false)
  | _ => .next s

/-! ## Erases -/

/-- A target is in service (R140). -/
def State.inService (i : SlotIx) (s : State) : Bool :=
  (s.slot i).state == .loaded && (!s.inRing i || s.inWindow i)

/-- The checks of an erase after its index (R139): the engine, protection, service. -/
def State.eraseCheck (op : SlotOp) (s : State) : Option Code :=
  match s.engineCheck with
  | some c => some c
  | none =>
    if allSlots.any fun i => op.targets i && s.protectedSlot i && s.lockedSlot i then some .locked
    else if allSlots.any fun i => op.targets i && s.protectedSlot i then some .areaProtected
    else if allSlots.any fun i => op.targets i && s.inService i then some .inService
    else none

/-- The acceptance of an erase (R141). -/
def acceptErase (op : SlotOp) (number : Byte) (time : Nat) (s : State) : Reply :=
  let entered := (allSlots.filter (s.erasable op)).length
  reply .accepted [number, numByte entered] ((s.spendPermit.beginErase op).startOp (.slotOp op) time)

/-- The rule of ERASE_SLOT (R139). -/
def eraseSlotRule (b : Byte) (s : State) : Reply :=
  if s.engine.permit = false then refuse .noPermit s
  else
    match slotIndexOf b with
    | none => refuse .badSlot s
    | some i =>
      match s.eraseCheck (.eraseSlot i) with
      | some c => refuse c s
      | none => acceptErase (.eraseSlot i) b Config.eraseSlotTime s

/-- ERASE_SLOT (R139). -/
def execEraseSlot (payload : List Byte) (s : State) : Host.Outcome State Fault Refusal :=
  .next (s.command .site false payload (argByte payload) eraseSlotRule)

/-- The rule of ERASE_BANK (R139). -/
def eraseBankRule (b : Byte) (s : State) : Reply :=
  if s.engine.permit = false then refuse .noPermit s
  else
    match bankIndexOf b with
    | none => refuse .badSlot s
    | some k =>
      match s.eraseCheck (.eraseBank k) with
      | some c => refuse c s
      | none => acceptErase (.eraseBank k) b Config.eraseBankTime s

/-- ERASE_BANK (R139). -/
def execEraseBank (payload : List Byte) (s : State) : Host.Outcome State Fault Refusal :=
  .next (s.command .site false payload (argByte payload) eraseBankRule)

/-! ## RETIRE and SLOT_INFO -/

/-- The acceptance of a RETIRE (R17): the slot enters RETIRED, and RING_CHANGED is set when it is a ring slot inside the
window. -/
def acceptRetire (i : SlotIx) (s : State) : Reply :=
  let retired := s.spendPermit.retireSlots (· == i)
  let told := if s.inRing i && s.inWindow i then retired.flagLanes .ringChanged else retired
  let generation := if s.inRing i then (match (s.slot i).generation with | some g => genBytes g | none => []) else []
  reply .ok ([numByte i.val] ++ generation) told

/-- The rule of RETIRE (R17). -/
def retireRule (b : Byte) (s : State) : Reply :=
  if s.engine.permit = false then refuse .noPermit s
  else
    match slotIndexOf b with
    | none => refuse .badSlot s
    | some i =>
      if s.lockedSlot i then refuse .locked s
      else if (s.slot i).state ≠ .loaded then refuse .notLoaded s
      else acceptRetire i s

/-- RETIRE (R17). -/
def execRetire (payload : List Byte) (s : State) : Host.Outcome State Fault Refusal :=
  .next (s.command .site false payload (argByte payload) retireRule)

/-- SLOT_INFO (R18). -/
def execSlotInfo (payload : List Byte) (s : State) : Host.Outcome State Fault Refusal :=
  .next (s.command .site false payload (argByte payload) fun b s =>
    match slotIndexOf b with
    | none => refuse .badSlot s
    | some i => reply .ok (s.slotReport i) s)

/-! ## SUSPEND and RESUME -/

/-- The kind, targets and remaining time of a held or resumed operation (R155, R156). -/
def slotOpBytes (op : SlotOp) (left : Nat) : List Byte := [op.byte, op.target.byte] ++ beBytes 2 left

/-- Less than 200 µs have elapsed since the last RESUME (R155). -/
def State.tooSoon (s : State) : Bool :=
  match s.engine.lastResume with
  | some t => decide (elapsed t s.clock.time < Config.resumeGuard)
  | none => false

/-- The rule of SUSPEND (R155). -/
def suspendRule (s : State) : Reply :=
  match s.engine.held with
  | some { by_ := .site, .. } => refuse .alreadySuspended s
  | some { op := op, remaining := left, by_ := .auto } =>
    if s.tooSoon then refuse .tooSoon s
    else
      reply .ok (slotOpBytes op left)
        { s with engine := { s.engine with held := some { op := op, remaining := left, by_ := .site } } }
  | none =>
    match s.engine.active with
    | some { op := .slotOp op, remaining := left } =>
      if s.tooSoon then refuse .tooSoon s else reply .ok (slotOpBytes op left) (s.holdActive .site)
    | _ => refuse .notSuspendable s

/-- SUSPEND (R155). -/
def execSuspend (payload : List Byte) (s : State) : Host.Outcome State Fault Refusal :=
  .next (s.command .site false payload (argNone payload) fun _ => suspendRule)

/-- The rule of RESUME (R156). -/
def resumeRule (s : State) : Reply :=
  match s.engine.held with
  | some { op := op, remaining := left, by_ := .site } =>
    if s.idle then
      let resumed := { s.engine with active := some { op := .slotOp op, remaining := left }, held := none,
                                     lastResume := some s.clock.time }
      reply .ok (slotOpBytes op left) { s with engine := resumed }
    else refuse .busy s
  | _ => refuse .notSuspended s

/-- RESUME (R156). -/
def execResume (payload : List Byte) (s : State) : Host.Outcome State Fault Refusal :=
  .next (s.command .site false payload (argNone payload) fun _ => resumeRule)

end Sys2Proof.Machine
end

