-- ==== Sys2Proof/Machine/Lanes.lean ====
section
/-! DEFINITION. Lane jobs, the dispatch arbiter, the completions of the cipher engine and tag sessions (chapters 3 to 6):
SUBMIT, FETCH, JOB_LAPSE, GRANT, ANSWER_COMPLETION, VERIFY_COMPLETION, SEAL_COMPLETION, SESSION_EXPIRY and
SET_SESSION_LIFE. -/

namespace Sys2Proof.Machine

/-! ## SUBMIT and FETCH -/

/-- The job record that a SUBMIT forms (R67, R69). -/
def submitJob (kind : JobKind) (payload : List Byte) (now : Time) : Job :=
  { jobTag := byteAt payload 1, budget := clampBudget (field payload 2 2), arrival := now, lapsed := false,
    body := submitBody kind payload }

/-- Append a job to the lane's job queue (R67). -/
def Lane.pushJob (j : Job) (x : Lane) : Lane := { x with jobs := x.jobs ++ [j] }

/-- The rule of SUBMIT (R67): the kind, the length of the kind (counted as a COMMAND error), the room, and the append. -/
def submitRule (l : LaneIx) (payload : List Byte) (s : State) : Reply :=
  match jobKindOf (byteAt payload 0) with
  | none => refuse .badKind s
  | some kind =>
    if payload.length ≠ submitLength kind then refuse .badLength (s.countError (.lane l) .command)
    else if Config.jobRoom ≤ (s.lane l).jobs.length then reply .queueFull [numByte (s.lane l).jobs.length] s
    else
      let j := submitJob kind payload s.clock.time
      reply .queued ([numByte ((s.lane l).jobs.length + 1)] ++ beBytes 2 j.budget)
        (s.setLane l ((s.lane l).pushJob j))

/-- SUBMIT (R67). -/
def execSubmit (l : LaneIx) (payload : List Byte) (s : State) : Host.Outcome State Fault Refusal :=
  .next (s.command (.lane l) false payload (argSubmit payload) (submitRule l))

/-- The rule of FETCH (R84). -/
def fetchRule (l : LaneIx) (s : State) : Reply :=
  match (s.lane l).results with
  | [] => refuse .noResult s
  | r :: rest => reply .ok r.bytes (s.setLane l { s.lane l with results := rest })

/-- FETCH (R84). -/
def execFetch (l : LaneIx) (payload : List Byte) (s : State) : Host.Outcome State Fault Refusal :=
  .next (s.command (.lane l) false payload (argNone payload) fun _ => fetchRule l)

/-! ## JOB_LAPSE -/

/-- The µs until a job's lapse event: the elapsed time must become budget + 1 (R71). -/
def Job.untilLapse (j : Job) (now : Time) : Nat := j.budget + 1 - elapsed j.arrival now

/-- The job at the head of the queue leaves with a result (R76, R77, R78). -/
def Lane.endHead (code : Code) (x : Lane) : Lane :=
  match x.jobs with
  | j :: rest => { x with jobs := rest, results := x.results ++ [j.result code] }
  | [] => x

/-- The lapse of the job at a place of the queue: its mark is set, or, when it is the head of a lane in counter wait, it ends
EXPIRED at once and the counter wait ends (R71, R78). -/
def Lane.lapse (place : Nat) (x : Lane) : Lane :=
  if x.counterWait && place == 0 then { x.endHead .expired with counterWait := false }
  else { x with jobs := x.jobs.modify place fun j => { j with lapsed := true } }

/-- JOB_LAPSE (R71): the job has a budget and has not lapsed; the event waits for the moment its budget is exceeded. -/
def execJobLapse (l : LaneIx) (place : Fin 8) (s : State) : Host.Outcome State Fault Refusal :=
  match (s.lane l).jobs[place.val]? with
  | some j =>
    if s.power = .running ∧ 0 < j.budget ∧ j.lapsed = false then
      let due := s.wait (j.untilLapse s.clock.time)
      .next (due.setLane l ((due.lane l).lapse place.val))
    else .next s
  | none => .next s

/-! ## The arbiter -/

/-- A lane is eligible (R72). -/
def Lane.eligible (x : Lane) : Bool :=
  !x.jobs.isEmpty && decide (x.results.length < Config.resultRoom) && !x.counterWait

/-- The LOAD in PREPARING, if any. -/
def State.preparing (s : State) : Option Load :=
  match s.engine.active with
  | some { op := .load l, .. } => some l
  | _ => none

/-- A requester is eligible (R72, R73). The engine is free at every grant, so a LOAD in PREPARING has then not yet been
granted. -/
def State.eligible (s : State) : Port → Bool
  | .lane l => (s.lane l).eligible
  | .site => s.preparing.isSome

/-- The requesters in the cyclic order (R74). -/
def requesters : List Port := [.lane 0, .lane 1, .lane 2, .lane 3, .site]

/-- The place of a requester in the order. -/
def requesterPlace : Port → Nat
  | .lane l => l.val
  | .site => 4

/-- The requesters in the order of examination: from the one after the last granted round to itself (R74). -/
def examined (last : Port) : List Port :=
  requesters.drop (requesterPlace last + 1) ++ requesters.take (requesterPlace last + 1)

/-- The requester that the next grant goes to (R74). -/
def State.nextGrant (s : State) : Option Port := (examined s.cipher.lastGranted).find? s.eligible

/-! ## Dispatch -/

/-- The occupancy of a piece of work in tenths of a µs, given its block operations (R79). -/
def occupancy (blocks : Nat) : Nat := Config.handlingTenths + Config.blockTenths * blocks

/-- A piece of work enters the engine (R49). -/
def State.enter (p : Port) (blocks : Nat) (t : Task) (s : State) : State :=
  { s with cipher := { s.cipher with work := some { requester := p, detached := false, left := occupancy blocks, task := t } } }

/-- The head job leaves the lane's queue. -/
def State.takeHead (l : LaneIx) (s : State) : State :=
  s.setLane l { s.lane l with jobs := (s.lane l).jobs.drop 1 }

/-- The head job ends at dispatch with a result code (R77). -/
def State.endAtDispatch (l : LaneIx) (code : Code) (s : State) : State := s.setLane l ((s.lane l).endHead code)

/-- Resolution (R51): the ring slot whose key the ANSWER may use, or the result code of the first check that fails. -/
def State.resolve (l : LaneIx) (g : Gen) (s : State) : Except Code SlotIx :=
  let p := s.ring.position g
  let i := s.ring.slotAt s.store.geometry p
  if s.ring.live = false then .error .noGeneration
  else if p < -(s.ring.back : Int) then .error .tooOld
  else if (s.ring.ahead : Int) < p then .error .tooNew
  else if (s.slot i).state = .retired then .error .genRetired
  else if ¬((s.slot i).state = .loaded ∧ (s.slot i).generation = some g) then .error .genMissing
  else if (s.slot i).allows l = false then .error .laneDenied
  else .ok i

/-- An ANSWER enters the engine: resolution, the cache lookup, the derivation on a miss, the nonce and the proof (R52, R55,
R57, R92). An ANSWER ended by resolution occupies the engine for its handling time (R52, assumption 12). -/
def State.enterAnswer (l : LaneIx) (j : Job) (a : AnswerJob) (s : State) : State :=
  let s := s.takeHead l
  match s.resolve l a.gen with
  | .error code => s.enter (.lane l) 0 (.answerEnded j.jobTag a code)
  | .ok i =>
    let kg := (s.slot i).key
    let nr := Config.readerNonce s.draws
    let drawn := { s with draws := s.draws + 1 }
    match cacheFind a.tagId a.gen s.cache with
    | some e =>
      { drawn with cache := cacheTouch e s.cache }.enter (.lane l) 1
        (.answer j.jobTag a i kg true e.kt nr (tagProof e.kt a.nt nr))
    | none =>
      let kt := tagKey kg a.tagId a.gen
      drawn.enter (.lane l) 2 (.answer j.jobTag a i kg false kt nr (tagProof kt a.nt nr))

/-- The dispatch of a VERIFY (R97). -/
def State.dispatchVerify (l : LaneIx) (j : Job) (v : VerifyJob) (s : State) : State :=
  match (s.lane l).current v.handle with
  | none => s.endAtDispatch l .sessionUnknown
  | some x =>
    if x.verified then s.endAtDispatch l .sessionState
    else (s.takeHead l).enter (.lane l) 1 (.verify j.jobTag v x.kt x.nt x.nr)

/-- The receipt slot of a SEAL, when its check passes (R109). -/
def State.receiptSlot (l : LaneIx) (index : Byte) (s : State) : Option SlotIx :=
  match slotIndexOf index with
  | some i => if s.areaOf i != .ring && (s.slot i).serves .receipt && (s.slot i).allows l then some i else none
  | none => none

/-- The lane enters counter wait, and COUNTER is set on the site port (R78, R110). -/
def State.enterCounterWait (l : LaneIx) (s : State) : State :=
  (s.setLane l { s.lane l with counterWait := true }).flagSite .counter

/-- A SEAL takes its number and enters the engine: the session is consumed and the receipt key copied (R102, R111, R116). -/
def State.enterSeal (l : LaneIx) (j : Job) (k : SealJob) (x : Session) (i : SlotIx) (s : State) : State :=
  let number := s.counter.next
  let issued := (s.takeHead l).issueNumber
  let closed := issued.setLane l ((issued.lane l).setSession (handleEntry k.handle) none)
  closed.enter (.lane l) 2 (.seal j.jobTag k x.tagId x.generation number (s.slot i).key)

/-- The counter check of a SEAL whose session and receipt slot have passed (R110). -/
def State.counterCheck (l : LaneIx) (j : Job) (k : SealJob) (x : Session) (i : SlotIx) (s : State) : State :=
  match s.counter.state with
  | .unset => s.endAtDispatch l .counterUnset
  | .exhausted => s.endAtDispatch l .counterExhausted
  | .running =>
    if s.counter.setting then s.enterCounterWait l
    else if s.counter.next < s.counter.limit then s.enterSeal l j k x i
    else if s.counter.reserving then s.enterCounterWait l
    else s.requestReservation.enterCounterWait l

/-- The dispatch of a SEAL: the session, then the receipt slot, then the counter (R102, R109, R110). -/
def State.dispatchSeal (l : LaneIx) (j : Job) (k : SealJob) (s : State) : State :=
  match (s.lane l).current k.handle with
  | none => s.endAtDispatch l .sessionUnknown
  | some x =>
    if x.verified = false then s.endAtDispatch l .sessionState
    else
      match s.receiptSlot l k.receiptSlot with
      | none => s.endAtDispatch l .badKeySlot
      | some i => s.counterCheck l j k x i

/-- The dispatch of a lane's head job (R76). -/
def State.dispatch (l : LaneIx) (s : State) : State :=
  match (s.lane l).jobs with
  | [] => s
  | j :: _ =>
    if j.lapsed then s.endAtDispatch l .expired
    else
      match j.body with
      | .answer a => s.enterAnswer l j a
      | .verify v => s.dispatchVerify l j v
      | .seal k => s.dispatchSeal l j k

/-- The grant to the site requester: the unwrap of the LOAD begins, or the load ends TRANSPORT_GONE (R134, R135). -/
def State.grantSite (s : State) : State :=
  match s.preparing with
  | none => s
  | some load =>
    match load.transport with
    | none => s.enter .site 1 (.unwrap load none)
    | some i =>
      if (s.slot i).serves .transport then s.enter .site 2 (.unwrap load (some (s.slot i).key))
      else s.endOp.outcome .program (.slot load.slot) .transportGone false

/-- The arbiter's last granted requester becomes `p` (R74). -/
def State.granted (p : Port) (s : State) : State := { s with cipher := { s.cipher with lastGranted := p } }

/-- GRANT (R74, R75): with the engine free, the next eligible requester in cyclic order is granted. -/
def execGrant (s : State) : Host.Outcome State Fault Refusal :=
  if s.power = .running ∧ s.cipher.work = none then
    match s.nextGrant with
    | some (.lane l) => .next ((s.granted (.lane l)).dispatch l)
    | some .site => .next (s.granted .site).grantSite
    | none => .next s
  else .next s

/-! ## Completions -/

/-- The work ends: the work record is emptied (R80). -/
def State.endWork (s : State) : State := { s with cipher := { s.cipher with work := none } }

/-- A result joins the lane's result queue, or is discarded for a detached job (R80, R86). -/
def State.deliver (l : LaneIx) (detached : Bool) (r : Result) (s : State) : State :=
  if detached then s else s.setLane l ((s.lane l).pushResult r)

/-- The lowest-numbered FREE entry of a lane (R94). -/
def Lane.freeEntry (x : Lane) : Option EntryIx := (List.finRange 4).find? fun i => (x.sessions[i]).session.isNone

/-- The elapsed time of an entry's session since its opening; 0 when FREE. -/
def Entry.age (now : Time) (e : Entry) : Nat :=
  match e.session with
  | some x => elapsed x.opened now
  | none => 0

/-- The entry with the greatest elapsed time since its opening, the lowest-numbered of equals (R95, assumption 25). -/
def Lane.oldestEntry (now : Time) (x : Lane) : EntryIx :=
  ([1, 2, 3] : List EntryIx).foldl
    (fun best i => if (x.sessions[best]).age now < (x.sessions[i]).age now then i else best) 0

/-- Open a session in an entry: its serial is first increased by one modulo 64 (R91, R94). -/
def Lane.openAt (i : EntryIx) (v : Session) (x : Lane) : Lane :=
  { x with sessions := x.sessions.set i { serial := (x.sessions[i]).serial + 1, session := some v } }

/-- Open a session in the lane: in its lowest FREE entry, or in the entry of its oldest session, which is evicted with
SESSION_LOST (R94, R95). The lane after it and the entry taken. -/
def Lane.openSession (now : Time) (v : Session) (x : Lane) : Lane × EntryIx :=
  match x.freeEntry with
  | some i => (x.openAt i v, i)
  | none =>
    let i := x.oldestEntry now
    ((x.flag .sessionLost).openAt i v, i)

/-- The result code of an ANSWER at its completion, given its generation and resolved slot (R93). -/
def State.answerCode (g : Gen) (i : SlotIx) (s : State) : Code :=
  if ¬((s.slot i).state = .loaded ∧ (s.slot i).generation = some g) then .genRetired
  else if (s.ring.ahead : Int) < s.ring.position g then .tooNew
  else if s.ring.position g < -(s.ring.back : Int) then .tooOld
  else .ok

/-- The condition of the cache insert (R58). -/
def State.mayInsert (g : Gen) (i : SlotIx) (s : State) : Bool :=
  s.ring.live && (s.slot i).state == .loaded && (s.slot i).generation == some g && s.inWindow i

/-- The cache insert of an ANSWER that missed (R58). -/
def State.offerKey (hit : Bool) (tagId : BitVec 64) (g : Gen) (kt : Block) (i : SlotIx) (s : State) : State :=
  if !hit && s.mayInsert g i then { s with cache := cacheInsert { tagId := tagId, generation := g, kt := kt } s.cache }
  else s

/-- The session that an ANSWER opens (R94). -/
def answerSession (a : AnswerJob) (kt : Block) (nr : BitVec 64) (now : Time) : Session :=
  { verified := false, tagId := a.tagId, generation := a.gen, kt := kt, nt := a.nt, nr := nr, opened := now }

/-- The completion of an ANSWER whose resolution passed (R93): the session, the result and the insert. -/
def State.finishAnswer (l : LaneIx) (detached : Bool) (tag : Byte) (a : AnswerJob) (i : SlotIx) (hit : Bool)
    (kt : Block) (nr proof : BitVec 64) (s : State) : State :=
  let code := s.answerCode a.gen i
  let offered := s.offerKey hit a.tagId a.gen kt i
  if code = .ok ∧ detached = false then
    let opened := (offered.lane l).openSession s.clock.time (answerSession a kt nr s.clock.time)
    let handle := handleOf opened.2 (opened.1.sessions[opened.2]).serial
    let result : Result := { jobTag := tag, kind := .answer, code := .ok, extra := .answer handle nr proof }
    offered.setLane l (opened.1.pushResult result)
  else offered.deliver l detached { jobTag := tag, kind := .answer, code := code, extra := .none }

/-- ANSWER_COMPLETION (R52, R80, R93): the event waits until the work has run its occupancy. -/
def execAnswerCompletion (s : State) : Host.Outcome State Fault Refusal :=
  match s.cipher.work with
  | some { requester := .lane l, detached := detached, left := left, task := .answer tag a i _ hit kt nr proof } =>
    .next ((s.elapse left).finishAnswer l detached tag a i hit kt nr proof).endWork
  | some { requester := .lane l, detached := detached, left := left, task := .answerEnded tag _ code } =>
    .next ((s.elapse left).deliver l detached { jobTag := tag, kind := .answer, code := code, extra := .none }).endWork
  | _ => .next s

/-- The result of a VERIFY at its completion and the lane after its effect on the session (R98). -/
def Lane.verify (v : VerifyJob) (expected : BitVec 64) (x : Lane) : Lane × Code :=
  match x.current v.handle with
  | none => (x, .sessionUnknown)
  | some session =>
    if expected = v.mac then
      (x.setSession (handleEntry v.handle) (some { session with verified := true }), .pass)
    else (x.setSession (handleEntry v.handle) none, .fail)

/-- VERIFY_COMPLETION (R80, R98). A VERIFY of a detached job changes no session. -/
def execVerifyCompletion (s : State) : Host.Outcome State Fault Refusal :=
  match s.cipher.work with
  | some { requester := .lane l, detached := detached, left := left, task := .verify tag v kt nt nr } =>
    let due := s.elapse left
    let checked := (due.lane l).verify v (expectedReply kt nt nr)
    let result : Result := { jobTag := tag, kind := .verify, code := checked.2, extra := .none }
    if detached then .next due.endWork
    else .next (due.setLane l (checked.1.pushResult result)).endWork
  | _ => .next s

/-- SEAL_COMPLETION (R80, R113). -/
def execSealCompletion (s : State) : Host.Outcome State Fault Refusal :=
  match s.cipher.work with
  | some { requester := .lane l, detached := detached, left := left, task := .seal tag k tagId g number kr } =>
    let receipt := receiptTag kr (receiptHead tagId g l number) k.toll
    .next ((s.elapse left).deliver l detached
      { jobTag := tag, kind := .seal, code := .ok, extra := .seal number receipt }).endWork
  | _ => .next s

/-! ## Session lifetime -/

/-- The µs until a session's lifetime event: the elapsed time must exceed L × 1000 µs (R100). -/
def Session.untilExpiry (life : Nat) (now : Time) (x : Session) : Nat := life * 1000 + 1 - elapsed x.opened now

/-- SESSION_EXPIRY (R100): an open session closes at its lifetime event, and SESSION_LOST is set on its lane. -/
def execSessionExpiry (l : LaneIx) (i : EntryIx) (s : State) : Host.Outcome State Fault Refusal :=
  match ((s.lane l).sessions[i]).session with
  | some x =>
    if s.power = .running then
      let due := s.wait (x.untilExpiry s.sessionLife s.clock.time)
      .next (due.setLane l (((due.lane l).setSession i none).flag .sessionLost))
    else .next s
  | none => .next s

/-- The clamp of a session lifetime (R101). -/
def clampLife (n : Nat) : Nat := if n < 5 then 5 else if 250 < n then 250 else n

/-- SET_SESSION_LIFE (R101): L takes the clamped value at once, and sessions past it expire. -/
def execSetSessionLife (payload : List Byte) (s : State) : Host.Outcome State Fault Refusal :=
  .next (s.command .site false payload (argByte payload) fun b s =>
    let life := clampLife b.toNat
    let past := fun (x : Session) => decide (life * 1000 < elapsed x.opened s.clock.time)
    reply .ok [numByte life] ({ s with sessionLife := life }.mapLanes fun x => x.loseSessions past))

end Sys2Proof.Machine
end

