-- ==== Sys2Proof/Machine/Ports.lean ====
section
/-! DEFINITION. The commands of the port interface (chapter 10): SYNC, STATUS, SET_EVENTS, ACK_EVENTS, SET_PORT_MONITOR,
READ_COUNTS, CLEAR_COUNTS, RESET_ARM and RESET. -/

namespace Sys2Proof.Machine

/-! ## SYNC -/

/-- A SYNC is accepted: on a lane port the lane number and the site code must agree, on the site port the site code, any code
while the configured code is 0 (R177). -/
def State.syncAccepted (p : Port) (lane : Option Byte) (code : BitVec 16) (s : State) : Bool :=
  match p with
  | .lane l => lane == some (numByte l.val) && code == s.siteCode
  | .site => code == s.siteCode || s.siteCode == 0

/-- The rule of SYNC (R177). -/
def syncRule (p : Port) (arg : Option Byte × BitVec 16) (s : State) : Reply :=
  if s.syncAccepted p arg.1 arg.2 then
    let ready := s.setPort p { (s.port p).clearCounts with state := .ready }
    match p with
    | .site => reply .ok [] ready
    | .lane l =>
      let empty := ready.discardLane l
      reply .ok [] (empty.setLane l { empty.lane l with flags := 0, enables := 0 })
  else refuse .identityMismatch (s.flagSite .port)

/-- SYNC (R177). -/
def execSync (p : Port) (payload : List Byte) (s : State) : Host.Outcome State Fault Refusal :=
  .next (s.command p true payload (argSync p payload) (syncRule p))

/-! ## STATUS and the event commands -/

/-- STATUS (R183). -/
def execStatus (p : Port) (payload : List Byte) (s : State) : Host.Outcome State Fault Refusal :=
  .next (s.command p false payload (argNone payload) fun _ s =>
    match p with
    | .lane l => reply .ok (s.laneStatus l) s
    | .site => reply .ok s.siteStatus s)

/-- The flags and enables of a port, as SET_EVENTS and ACK_EVENTS answer them (R182). -/
def State.eventBytes (p : Port) (s : State) : List Byte :=
  match p with
  | .lane l => [(s.lane l).flagsRead.setWidth 8, (s.lane l).enables.setWidth 8]
  | .site => [s.site.flags.setWidth 8, s.site.enables.setWidth 8]

/-- Replace a port's enables with a byte's flags; bits for no flag are ignored (R182). -/
def State.setEnables (p : Port) (b : Byte) (s : State) : State :=
  match p with
  | .lane l => s.setLane l { s.lane l with enables := b.setWidth 4 }
  | .site => { s with site := { s.site with enables := b.setWidth 7 } }

/-- Clear a port's flags named by a byte; RESULT follows the result queue (R182). -/
def State.clearFlags (p : Port) (b : Byte) (s : State) : State :=
  match p with
  | .lane l => s.setLane l { s.lane l with flags := (s.lane l).flags &&& ~~~(b.setWidth 4) }
  | .site => { s with site := { s.site with flags := s.site.flags &&& ~~~(b.setWidth 7) } }

/-- SET_EVENTS (R182). -/
def execSetEvents (p : Port) (payload : List Byte) (s : State) : Host.Outcome State Fault Refusal :=
  .next (s.command p false payload (argByte payload) fun b s =>
    reply .ok ((s.setEnables p b).eventBytes p) (s.setEnables p b))

/-- ACK_EVENTS (R182). -/
def execAckEvents (p : Port) (payload : List Byte) (s : State) : Host.Outcome State Fault Refusal :=
  .next (s.command p false payload (argByte payload) fun b s =>
    reply .ok ((s.clearFlags p b).eventBytes p) (s.clearFlags p b))

/-! ## Monitor and counters -/

/-- SET_PORT_MONITOR (R179). -/
def execSetPortMonitor (payload : List Byte) (s : State) : Host.Outcome State Fault Refusal :=
  .next (s.command .site false payload (argThreeBytes payload) fun (modes, threshold, mask) s =>
    match monitorOf modes threshold mask with
    | some m => reply .ok [modes, threshold, mask] { s with monitor := m }
    | none => refuse .badArgument s)

/-- READ_COUNTS (R181). -/
def execReadCounts (payload : List Byte) (s : State) : Host.Outcome State Fault Refusal :=
  .next (s.command .site false payload (argByte payload) fun b s =>
    match portOf b with
    | some p =>
      let x := s.port p
      reply .ok [b, x.state.byte, x.checkCount, x.frameCount, x.commandCount] s
    | none => refuse .badArgument s)

/-- CLEAR_COUNTS (R181). -/
def execClearCounts (payload : List Byte) (s : State) : Host.Outcome State Fault Refusal :=
  .next (s.command .site false payload (argByte payload) fun b s =>
    match portOf b with
    | some p => reply .ok [] (s.setPort p (s.port p).clearCounts)
    | none => refuse .badArgument s)

/-! ## The soft reset commands -/

/-- RESET_ARM (R184). -/
def execResetArm (payload : List Byte) (s : State) : Host.Outcome State Fault Refusal :=
  .next (s.command .site false payload (argNone payload) fun _ s =>
    reply .ok [] { s with site := { s.site with resetArm := true } })

/-- RESET (R184). The flag is read as it stood when the frame came; the frame itself clears it. -/
def execReset (payload : List Byte) (s : State) : Host.Outcome State Fault Refusal :=
  let armed := s.site.resetArm
  .next (s.command .site false payload (argNone payload) fun _ s =>
    if armed then reply .ok [] { s with site := { s.site with resetTaken := true } } else refuse .resetNotArmed s)

end Sys2Proof.Machine
end

