-- ==== Sys2Proof/Machine/RingCommands.lean ====
section
/-! DEFINITION. The commands and events of the generation ring that act at once (chapter 2): ADVANCE, CANCEL_ROTATION,
ROTATION_TIMER_EXPIRY, ROT_PULSE_END, and the site operations SET_CURRENT and SET_COUNTER (R43, R121). -/

namespace Sys2Proof.Machine

/-- The rule of ADVANCE (R30). -/
def advanceRule (s : State) : Reply :=
  if s.ring.live = false then refuse .ringUnset s
  else if s.nextReady then
    let t := s.advance
    reply .ok (genBytes t.ring.c ++ [numByte t.ring.h]) t
  else refuse .nextNotLoaded s

/-- ADVANCE (R30). -/
def execAdvance (payload : List Byte) (s : State) : Host.Outcome State Fault Refusal :=
  .next (s.command .site false payload (argNone payload) fun _ => advanceRule)

/-- The rule of CANCEL_ROTATION (R37). -/
def cancelRule (s : State) : Reply :=
  if s.ring.rotationPending then
    let ring := { s.ring with rotationPending := false }.reload
    reply .ok (beBytes 4 ring.remaining) { s with ring := ring }
  else refuse .notPending s

/-- CANCEL_ROTATION (R37). -/
def execCancelRotation (payload : List Byte) (s : State) : Host.Outcome State Fault Refusal :=
  .next (s.command .site false payload (argNone payload) fun _ => cancelRule)

/-- A rotation falls due without its key: it becomes pending, and ROTATE_LATE is set (R35). -/
def State.rotateLate (s : State) : State :=
  ({ s with ring := { s.ring with rotationPending := true, remaining := 0, secondRun := 0 } }).flagSite .rotateLate

/-- ROTATION_TIMER_EXPIRY (R35): the counting timer reaches 0, and the advance is taken if its precondition holds. -/
def execRotationTimerExpiry (s : State) : Host.Outcome State Fault Refusal :=
  if s.power = .running ∧ s.ring.counting then
    let due := s.wait s.ring.untilExpiry
    if due.nextReady then .next due.advance else .next due.rotateLate
  else .next s

/-- ROT_PULSE_END (R32): 2 µs after the last advance ROT is low. -/
def execRotPulseEnd (s : State) : Host.Outcome State Fault Refusal := .next (s.wait s.clock.rotLeft)

/-- The lowest-indexed ring slot that is LOADED holding `g` (R43). -/
def State.holderOf (g : Gen) (s : State) : Option SlotIx :=
  allSlots.find? fun i => s.inRing i && (s.slot i).state == .loaded && (s.slot i).generation == some g

/-- The rule of SET_CURRENT (R43). -/
def setCurrentRule (w : BitVec 16) (s : State) : Reply :=
  if s.engine.permit = false then refuse .noPermit s
  else
    match s.engineCheck with
    | some c => refuse c s
    | none =>
      if s.ring.live then refuse .ringLive s
      else if 4096 ≤ w.toNat then refuse .genMissing s
      else
        match s.holderOf (w.setWidth 12) with
        | none => refuse .genMissing s
        | some i =>
          let h := i.val - s.store.geometry.head
          reply .accepted [numByte i.val, numByte h]
            (s.spendPermit.startOp (.setCurrent i (w.setWidth 12) h) Config.recordTime)

/-- SET_CURRENT (R43). -/
def execSetCurrent (payload : List Byte) (s : State) : Host.Outcome State Fault Refusal :=
  .next (s.command .site false payload (argWord payload) setCurrentRule)

/-- The rule of SET_COUNTER (R121). It marks the SET_COUNTER in progress also while the counter is UNSET: R115 says that both of
the counter's flags are clear then, and its own row of that flag and R121 say that an acceptance sets it (assumption 37). -/
def setCounterRule (base : Nat) (s : State) : Reply :=
  if s.engine.permit = false then refuse .noPermit s
  else
    match s.engineCheck with
    | some c => refuse c s
    | none =>
      if s.counter.state ≠ .unset ∧ base < s.counter.next then refuse .counterBelow s
      else
        let limit := min (base + Config.reserveStep) Config.counterTop
        let marked := { s.spendPermit with counter := { s.counter with setting := true } }
        reply .accepted (beBytes 4 base ++ beBytes 4 limit) (marked.startOp (.setCounter base limit) Config.recordTime)

/-- SET_COUNTER (R121). -/
def execSetCounter (payload : List Byte) (s : State) : Host.Outcome State Fault Refusal :=
  .next (s.command .site false payload (argLong payload) setCounterRule)

end Sys2Proof.Machine
end

