-- ==== Sys2Proof/Machine/SettingsCommands.lean ====
section
/-! DEFINITION. The settings commands (R149): SET_ROTATION, SET_WINDOW, SET_GEOMETRY, SET_PROTECT with either option,
LOCK_AREA, SET_FREEZE, SET_SITE and SET_LANES. -/

namespace Sys2Proof.Machine

/-- What a settings command's own checks give: a refusal, or the command, the settings record as it will stand, and the values
of the response. -/
abbrev SettingsPlan := Except Code (SettingsCommand × Settings × List Byte)

/-- A settings command (R149): permit, write engine, freeze where it covers the command, the command's own checks; then the
permit clears and the settings write becomes active. -/
def settingsRule (freezes : Bool) (plan : State → SettingsPlan) (s : State) : Reply :=
  if s.engine.permit = false then refuse .noPermit s
  else
    match s.engineCheck with
    | some c => refuse c s
    | none =>
      if freezes && s.protection.frozen then refuse .frozen s
      else
        match plan s with
        | .error c => refuse c s
        | .ok (command, record, values) =>
          reply .accepted values (s.spendPermit.startOp (.settings command record) Config.settingsTime)

/-! ## Ring settings -/

/-- The clamp of a period (R38). -/
def clampPeriod (n : Nat) : Nat :=
  if n = 0 then 0 else if n < 60 then 60 else if 604800 < n then 604800 else n

/-- SET_ROTATION's plan (R38). -/
def rotationPlan (n : Nat) (s : State) : SettingsPlan :=
  .ok (.rotation, { s.settings with period := clampPeriod n }, beBytes 4 (clampPeriod n))

/-- SET_ROTATION (R38). -/
def execSetRotation (payload : List Byte) (s : State) : Host.Outcome State Fault Refusal :=
  .next (s.command .site false payload (argLong payload) fun n => settingsRule false (rotationPlan n))

/-- A raised B would misread a LOADED slot: one whose offset lies from N−B′ to N−1−B (R39). -/
def State.windowConflict (back : Nat) (s : State) : Bool :=
  s.ring.live && decide (s.ring.back < back) &&
    allSlots.any fun i =>
      s.inRing i && (s.slot i).state == .loaded &&
        decide ((s.store.geometry.ring : Int) - (back : Int) ≤ s.ring.offset s.store.geometry i) &&
        decide (s.ring.offset s.store.geometry i ≤ (s.store.geometry.ring : Int) - 1 - (s.ring.back : Int))

/-- SET_WINDOW's plan (R39). -/
def windowPlan (back ahead : Byte) (s : State) : SettingsPlan :=
  let b := min back.toNat (s.store.geometry.ring - 2)
  let a := min ahead.toNat 1
  if s.windowConflict b then .error .windowConflict
  else .ok (.window, { s.settings with back := b, ahead := a }, [numByte b, numByte a])

/-- SET_WINDOW (R39). -/
def execSetWindow (payload : List Byte) (s : State) : Host.Outcome State Fault Refusal :=
  .next (s.command .site false payload (argTwoBytes payload) fun (back, ahead) => settingsRule false (windowPlan back ahead))

/-- The sizes or the generation of a SET_GEOMETRY are out of bounds (R41, check 1). -/
def badGeometry (h n : Nat) (c0 : BitVec 16) : Bool :=
  decide (31 < h) || decide (n < 2) || decide (48 < n) || decide (64 < h + n) || decide (31 < 64 - (h + n)) ||
    decide (4095 < c0.toNat)

/-- SET_GEOMETRY's plan (R41). -/
def geometryPlan (head ring : Byte) (c0 : BitVec 16) (s : State) : SettingsPlan :=
  let geo : Geometry := { head := head.toNat, ring := ring.toNat }
  if badGeometry geo.head geo.ring c0 then .error .badGeometry
  else if allSlots.any fun i => (s.inRing i || geo.area i == .ring) && (s.slot i).state != .blank then .error .ringInUse
  else if allSlots.any fun i => s.areaOf i != geo.area i && (s.slot i).state != .blank then .error .areaInUse
  else
    let back := min s.ring.back (geo.ring - 2)
    .ok (.geometry (c0.setWidth 12), { s.settings with geometry := geo, back := back },
      [head, ring, numByte geo.tail] ++ beBytes 2 c0.toNat ++ [numByte back])

/-- SET_GEOMETRY (R41). -/
def execSetGeometry (payload : List Byte) (s : State) : Host.Outcome State Fault Refusal :=
  .next (s.command .site false payload (argGeometry payload) fun (head, ring, c0) =>
    settingsRule true (geometryPlan head ring c0))

/-! ## Protection -/

/-- The settings with the NV protect value of an area replaced. -/
def Settings.withProtect (a : FixedArea) (v : Bool) (x : Settings) : Settings :=
  match a with
  | .head => { x with headProtect := v }
  | .tail => { x with tailProtect := v }

/-- The area, flags and effective protection that a volatile SET_PROTECT answers (R166). -/
def protectionBytes (a : FixedArea) (x : AreaProtection) : List Byte :=
  [a.byte, flagByte x.nv, flagByte x.overlayValid, flagByte x.overlay, flagByte x.lock, flagByte x.effective]

/-- SET_PROTECT with the volatile option: freeze, then the area; the overlay acts at once (R165, R166). -/
def protectVolatileRule (area value : Byte) (s : State) : Reply :=
  if s.protection.frozen then refuse .frozen s
  else
    match fixedAreaOf area with
    | none => refuse .badArea s
    | some a =>
      let x := { s.protection.area a with overlayValid := true, overlay := value != 0 }
      reply .ok (protectionBytes a x) { s with protection := s.protection.setArea a x }

/-- SET_PROTECT's plan with the NV option (R165, R167). -/
def protectPlan (area value : Byte) (s : State) : SettingsPlan :=
  match fixedAreaOf area with
  | none => .error .badArea
  | some a => .ok (.protect a, s.settings.withProtect a (value != 0), [a.byte, flagByte (value != 0)])

/-- SET_PROTECT (R165): the option byte decides. -/
def protectRule (arg : Byte × Byte × Byte) (s : State) : Reply :=
  if arg.2.2 = 0x00 then protectVolatileRule arg.1 arg.2.1 s
  else if arg.2.2 = 0x01 then settingsRule true (protectPlan arg.1 arg.2.1) s
  else refuse .badArgument s

/-- SET_PROTECT_VOLATILE: SET_PROTECT with an option byte other than that of the NV option (R165, R166). -/
def execSetProtectVolatile (payload : List Byte) (s : State) : Host.Outcome State Fault Refusal :=
  .next (s.command .site false payload (argThreeBytes payload) protectRule)

/-- SET_PROTECT_NV: SET_PROTECT with the NV option (R165, R167). -/
def execSetProtectNv (payload : List Byte) (s : State) : Host.Outcome State Fault Refusal :=
  .next (s.command .site false payload (argThreeBytes payload) fun arg => protectRule arg)

/-- LOCK_AREA's plan (R168). -/
def lockPlan (area : Byte) (s : State) : SettingsPlan :=
  match fixedAreaOf area with
  | none => .error .badArea
  | some a => if (s.protection.area a).lock then .error .locked else .ok (.lock a, s.settings, [a.byte])

/-- LOCK_AREA (R168). -/
def execLockArea (payload : List Byte) (s : State) : Host.Outcome State Fault Refusal :=
  .next (s.command .site false payload (argByte payload) fun b => settingsRule true (lockPlan b))

/-- SET_FREEZE's plan (R170). -/
def freezePlan (value : Byte) (s : State) : SettingsPlan :=
  .ok (.freeze, { s.settings with freeze := value != 0 }, [flagByte (value != 0)])

/-- SET_FREEZE (R170). -/
def execSetFreeze (payload : List Byte) (s : State) : Host.Outcome State Fault Refusal :=
  .next (s.command .site false payload (argByte payload) fun b => settingsRule true (freezePlan b))

/-! ## Port settings -/

/-- SET_SITE's plan (R178). -/
def sitePlan (code : BitVec 16) (s : State) : SettingsPlan :=
  .ok (.site, { s.settings with siteCode := code }, beBytes 2 code.toNat)

/-- SET_SITE (R178). -/
def execSetSite (payload : List Byte) (s : State) : Host.Outcome State Fault Refusal :=
  .next (s.command .site false payload (argWord payload) fun w => settingsRule true (sitePlan w))

/-- SET_LANES's plan (R178). -/
def lanesPlan (mask : Byte) (s : State) : SettingsPlan :=
  if 16 ≤ mask.toNat then .error .badArgument
  else .ok (.lanes, { s.settings with laneEnable := mask.setWidth 4 }, [mask])

/-- SET_LANES (R178). -/
def execSetLanes (payload : List Byte) (s : State) : Host.Outcome State Fault Refusal :=
  .next (s.command .site false payload (argByte payload) fun b => settingsRule true (lanesPlan b))

end Sys2Proof.Machine
end

