-- ==== Sys2Proof/Machine/Supply.lean ====
section
/-! DEFINITION. The supply, the reset line, the soft reset, the end of start-up and the WPL line (R159, R169, R176, R184,
R185). An event that cannot occur as the part stands is not taken: the state stays (assumption 3). -/

namespace Sys2Proof.Machine

/-- POWER_ON (R185): an unpowered part begins start-up, or, while RST is active, waits in reset for its release
(assumption 34). -/
def execPowerOn (s : State) : Host.Outcome State Fault Refusal :=
  if s.power = .off then
    if s.rst then .next { s with power := .held } else .next (s.startUp false)
  else .next s

/-- The part without power: what the array holds survives, and the lines and the model's own counters stand. RAM is lost; the
model puts the values of reset there, which no port shows and every start-up replaces (assumption 11). -/
def State.unpowered (s : State) : State :=
  { State.reset with
    power := .off
    rst := s.rst
    clock := { time := 0, tenths := 0, startupLeft := 0, rotLeft := 0 }
    array := s.array
    site := { State.reset.site with flags := 0 }
    protection := { State.reset.protection with wpl := s.protection.wpl }
    draws := s.draws
    pending := s.pending }

/-- POWER_LOSS (R159): the engines' work is abandoned and every volatile item is lost. The outside still drives RST and WPL. -/
def execPowerLoss (s : State) : Host.Outcome State Fault Refusal :=
  if s.power = .off then .next s else .next s.abandon.unpowered

/-- RST_ASSERT (R185): the line goes to its reset level. In a part with power the engines' work is abandoned at once, and the
part is silent until the release. What RAM holds until then is not shown on any port; the model loses it at the assertion
(assumption 26). Without power the level alone changes, and decides what POWER_ON does (assumption 34). -/
def execRstAssert (s : State) : Host.Outcome State Fault Refusal :=
  match s.power with
  | .off => .next { s with rst := true }
  | .held => .next { s with rst := true }
  | _ => .next { s.abandon.unpowered with power := .held, rst := true }

/-- RST_RELEASE (R185): the line leaves its reset level, and a part held in reset begins start-up. -/
def execRstRelease (s : State) : Host.Outcome State Fault Refusal :=
  let released := { s with rst := false }
  if s.power = .held then .next (released.startUp false) else .next released

/-- SOFT_RESET (R184): after an accepted RESET, at the release of the site select, the engines' work is abandoned and
start-up runs, keeping the monitor settings, L and the site enables. -/
def execSoftReset (s : State) : Host.Outcome State Fault Refusal :=
  if s.power = .running ∧ s.site.resetTaken then .next (s.abandon.startUp true) else .next s

/-- A lane at the end of start-up: RESYNC when enabled in the lane enable mask, otherwise DISABLED (R176). -/
def Lane.endStartup (enabled : Bool) (x : Lane) : Lane :=
  { x with port := { x.port with state := if enabled then .resync else .disabled } }

/-- Every lane at the end of start-up. -/
def State.openLanes (s : State) : State :=
  s.mapLanesAt fun l x => x.endStartup (s.laneEnable.getLsbD l.val)

/-- STARTUP_END (R176, R182): when the 4 ms have run, the ports enter their states and STARTED is set. -/
def execStartupEnd (s : State) : Host.Outcome State Fault Refusal :=
  if s.power = .starting then
    let due := s.wait s.clock.startupLeft
    let opened := { due with power := .running }.openLanes
    .next ((opened.setPort .site { opened.site.port with state := .resync }).flagSite .started)
  else .next s

/-- WPL_CHANGE (R169): the line takes a level; no flag is set. -/
def execWplChange (high : Bool) (s : State) : Host.Outcome State Fault Refusal :=
  .next { s with protection := { s.protection with wpl := high } }

end Sys2Proof.Machine
end

