-- ==== Sys2Proof/Machine/Dispatch.lean ====
section
/-! DEFINITION. One arm for each command. -/

namespace Sys2Proof.Machine

def exec (i : Instr) (s : State) : Host.Outcome State Fault Refusal :=
  match i with
  | .powerOn => Sys2Proof.Machine.execPowerOn s
  | .powerLoss => Sys2Proof.Machine.execPowerLoss s
  | .rstAssert => Sys2Proof.Machine.execRstAssert s
  | .rstRelease => Sys2Proof.Machine.execRstRelease s
  | .softReset => Sys2Proof.Machine.execSoftReset s
  | .startupEnd => Sys2Proof.Machine.execStartupEnd s
  | .wplChange high => Sys2Proof.Machine.execWplChange high s
  | .frameError port how => Sys2Proof.Machine.execFrameError port how s
  | .checkFail port => Sys2Proof.Machine.execCheckFail port s
  | .unknownCommand port code => Sys2Proof.Machine.execUnknownCommand port code s
  | .sync port payload => Sys2Proof.Machine.execSync port payload s
  | .status port payload => Sys2Proof.Machine.execStatus port payload s
  | .setEvents port payload => Sys2Proof.Machine.execSetEvents port payload s
  | .ackEvents port payload => Sys2Proof.Machine.execAckEvents port payload s
  | .submit lane payload => Sys2Proof.Machine.execSubmit lane payload s
  | .fetch lane payload => Sys2Proof.Machine.execFetch lane payload s
  | .jobLapse lane place => Sys2Proof.Machine.execJobLapse lane place s
  | .grant => Sys2Proof.Machine.execGrant s
  | .answerCompletion => Sys2Proof.Machine.execAnswerCompletion s
  | .verifyCompletion => Sys2Proof.Machine.execVerifyCompletion s
  | .sealCompletion => Sys2Proof.Machine.execSealCompletion s
  | .unwrapCompletion => Sys2Proof.Machine.execUnwrapCompletion s
  | .sessionExpiry lane entry => Sys2Proof.Machine.execSessionExpiry lane entry s
  | .permit payload => Sys2Proof.Machine.execPermit payload s
  | .load payload => Sys2Proof.Machine.execLoad payload s
  | .eraseSlot payload => Sys2Proof.Machine.execEraseSlot payload s
  | .eraseBank payload => Sys2Proof.Machine.execEraseBank payload s
  | .retire payload => Sys2Proof.Machine.execRetire payload s
  | .slotInfo payload => Sys2Proof.Machine.execSlotInfo payload s
  | .suspend payload => Sys2Proof.Machine.execSuspend payload s
  | .resume payload => Sys2Proof.Machine.execResume payload s
  | .advance payload => Sys2Proof.Machine.execAdvance payload s
  | .rotPulseEnd => Sys2Proof.Machine.execRotPulseEnd s
  | .cancelRotation payload => Sys2Proof.Machine.execCancelRotation payload s
  | .rotationTimerExpiry => Sys2Proof.Machine.execRotationTimerExpiry s
  | .setRotation payload => Sys2Proof.Machine.execSetRotation payload s
  | .setWindow payload => Sys2Proof.Machine.execSetWindow payload s
  | .setGeometry payload => Sys2Proof.Machine.execSetGeometry payload s
  | .setCurrent payload => Sys2Proof.Machine.execSetCurrent payload s
  | .setCounter payload => Sys2Proof.Machine.execSetCounter payload s
  | .setSessionLife payload => Sys2Proof.Machine.execSetSessionLife payload s
  | .setProtectVolatile payload => Sys2Proof.Machine.execSetProtectVolatile payload s
  | .setProtectNv payload => Sys2Proof.Machine.execSetProtectNv payload s
  | .lockArea payload => Sys2Proof.Machine.execLockArea payload s
  | .setFreeze payload => Sys2Proof.Machine.execSetFreeze payload s
  | .setSite payload => Sys2Proof.Machine.execSetSite payload s
  | .setLanes payload => Sys2Proof.Machine.execSetLanes payload s
  | .setPortMonitor payload => Sys2Proof.Machine.execSetPortMonitor payload s
  | .readCounts payload => Sys2Proof.Machine.execReadCounts payload s
  | .clearCounts payload => Sys2Proof.Machine.execClearCounts payload s
  | .resetArm payload => Sys2Proof.Machine.execResetArm payload s
  | .reset payload => Sys2Proof.Machine.execReset payload s
  | .programComplete verified => Sys2Proof.Machine.execProgramComplete verified s
  | .eraseComplete failed => Sys2Proof.Machine.execEraseComplete failed s
  | .setRotationComplete verified => Sys2Proof.Machine.execSetRotationComplete verified s
  | .setWindowComplete verified => Sys2Proof.Machine.execSetWindowComplete verified s
  | .setGeometryComplete verified => Sys2Proof.Machine.execSetGeometryComplete verified s
  | .setProtectNvComplete verified => Sys2Proof.Machine.execSetProtectNvComplete verified s
  | .lockAreaComplete recordVerified cellVerified => Sys2Proof.Machine.execLockAreaComplete recordVerified cellVerified s
  | .setFreezeComplete verified => Sys2Proof.Machine.execSetFreezeComplete verified s
  | .setSiteComplete verified => Sys2Proof.Machine.execSetSiteComplete verified s
  | .setLanesComplete verified => Sys2Proof.Machine.execSetLanesComplete verified s
  | .setCurrentComplete verified => Sys2Proof.Machine.execSetCurrentComplete verified s
  | .setCounterComplete verified => Sys2Proof.Machine.execSetCounterComplete verified s
  | .genRecordComplete verified => Sys2Proof.Machine.execGenRecordComplete verified s
  | .reservationComplete verified => Sys2Proof.Machine.execReservationComplete verified s
  | .retireMarkComplete verified => Sys2Proof.Machine.execRetireMarkComplete verified s
  | .internalWriteStart => Sys2Proof.Machine.execInternalWriteStart s
  | .arrayAtRest => Sys2Proof.Machine.execArrayAtRest s

end Sys2Proof.Machine
end

