-- ==== Sys2Proof/Safety.lean ====
section
/-! DEFINITION. The laws of the part, as the spec states them of its blocks, and the form of a claim that every command keeps one.
A law that holds only together with what an operation in progress carries says both. -/

namespace Sys2Proof.Machine

/-- Every step keeps a property of states. -/
def Kept (P : State → Prop) : Prop := ∀ s t, P s → step s = .next t → P t

/-! ## The RST line (R185) -/

/-- The law of the RST line: a part that waits in reset does so because RST is active, and while RST is active no start-up runs
and no frame is taken (R185). -/
def RstLaw (s : State) : Prop :=
  (s.power = .held → s.rst = true) ∧ (s.power = .starting ∨ s.power = .running → s.rst = false)

/-! ## Transactions (R174 to R176) -/

/-- A payload length that a command has (R186), the length that order 4 of R175 asks of its frame: by the command code, and for
SYNC by the port. A SUBMIT needs at least one byte at order 4. -/
def lengthFits (p : Port) (code : Byte) (n : Nat) : Prop :=
  (code = 0x01 → n = if p = .site then 2 else 3) ∧
  (code = 0x10 → 1 ≤ n) ∧
  (code = 0x21 → n = 42) ∧
  (code ∈ ([0x02, 0x11, 0x26, 0x27, 0x30, 0x31, 0x43, 0x44] : List Byte) → n = 0) ∧
  (code ∈ ([0x03, 0x04, 0x20, 0x22, 0x23, 0x24, 0x25, 0x37, 0x39, 0x3A, 0x3C, 0x41, 0x42] : List Byte) → n = 1) ∧
  (code ∈ ([0x33, 0x35, 0x3B] : List Byte) → n = 2) ∧
  (code ∈ ([0x38, 0x40] : List Byte) → n = 3) ∧
  (code ∈ ([0x32, 0x34, 0x36] : List Byte) → n = 4)

/-- A port takes every command: the part runs and the port is READY (R176). -/
def State.Admits (s : State) (p : Port) : Prop := s.power = .running ∧ (s.port p).state = .ready

/-- A port examines frames: the part runs and the port is in RESYNC, READY or HALTED (R175). -/
def State.Examines (s : State) (p : Port) : Prop :=
  s.power = .running ∧ ((s.port p).state = .resync ∨ (s.port p).state = .ready ∨ (s.port p).state = .halted)

/-- What every checked-good frame does to its port: the reset-arm flag clears on the site port (R184), and the response is
formed (R174). -/
def State.heard (p : Port) (code : Code) (payload : List Byte) (s : State) : State :=
  (s.disarm p).answer p (some { status := code, payload := payload })

/-- A request frame: command code, length, payload and check byte (R174). -/
def requestFrame (code : Byte) (payload : List Byte) : List Byte :=
  let body := [code, numByte payload.length] ++ payload
  body ++ [checkByte body]

/-! ## Queues (R70, R78, R83) -/

/-- A lane's queues hold at most eight each; a lane in counter wait has a SEAL at the head of its job queue and room for its
result (R70, R78, R83). -/
def Lane.QueuesOk (x : Lane) : Prop :=
  x.jobs.length ≤ 8 ∧ x.results.length ≤ 8 ∧
    (x.counterWait = true → x.results.length < 8 ∧ ∃ j rest k, x.jobs = j :: rest ∧ j.body = .seal k)

/-- The law of the lane queues. A lane with a job in the engine has room for its result and is not in counter wait. -/
def QueueLaw (s : State) : Prop :=
  (∀ l, (s.lane l).QueuesOk) ∧
  (∀ w l, s.cipher.work = some w → w.requester = .lane l → w.detached = false →
    (s.lane l).results.length < 8 ∧ (s.lane l).counterWait = false)

/-! ## Geometry and window (R22) -/

/-- The sizes that a geometry may have: 2 ≤ N ≤ 48, H and T at most 31, H + N + T = 64 (R22, R41). -/
def Geometry.Ok (g : Geometry) : Prop := g.head ≤ 31 ∧ 2 ≤ g.ring ∧ g.ring ≤ 48 ∧ g.head + g.ring ≤ 64 ∧ g.tail ≤ 31

/-- Settings under the law of the geometry and window: 0 ≤ B ≤ N − 2 and 0 ≤ A ≤ 1 (R22). -/
def Settings.Ok (x : Settings) : Prop := x.geometry.Ok ∧ x.back ≤ x.geometry.ring - 2 ∧ x.ahead ≤ 1

/-- The law of the geometry and window (R22): of the settings in force, of a good settings record, and of the record that a
settings write in progress carries; and h lies below N, also the h that a SET_CURRENT in progress carries. -/
def WindowLaw (s : State) : Prop :=
  s.settings.Ok ∧ s.ring.h < s.store.geometry.ring ∧
  (∀ r, s.array.settings = .good r → r.Ok) ∧
  (∀ a c r, s.engine.active = some a → a.op = .settings c r →
    r.Ok ∧ ((∀ c0, c ≠ .geometry c0) → r.geometry = s.store.geometry)) ∧
  (∀ a i g h, s.engine.active = some a → a.op = .setCurrent i g h → h < s.store.geometry.ring)

/-! ## The write engine and the slots (R3, R13, R133, R144, R148) -/

/-- A program or erase is in progress: it is the active or the held operation (R143). -/
def State.inProgress (s : State) (op : SlotOp) : Prop :=
  (∃ left, s.engine.active = some { op := .slotOp op, remaining := left }) ∨
  (∃ left who, s.engine.held = some { op := op, remaining := left, by_ := who })

/-- The operation is a program (R145). -/
def SlotOp.isProgram : SlotOp → Bool
  | .program _ => true
  | _ => false

/-- What may be held beside an active operation (R144, R148, R152): anything beside an internal write, an erase that does not
target the slot beside a LOAD or its program, and nothing beside any other site operation. -/
def HeldOp.beside (x : HeldOp) : Operation → Prop
  | .load l => x.op.isProgram = false ∧ x.op.targets l.slot = false
  | .slotOp (.program i) => x.op.isProgram = false ∧ x.op.targets i = false
  | .reservation _ _ => True
  | .genRecord _ _ _ => True
  | .retireMarks _ _ => True
  | _ => False

/-- The law of the write engine and its slots: what is held suits what is active; the target of a program in progress is
PROGRAMMING; a PROGRAMMING or ERASING slot belongs to a program or erase in progress; the target of a LOAD in PREPARING is
BLANK; an unwrap in the cipher engine is that of the LOAD in PREPARING; and without power or in reset both engines are empty. -/
structure EngineLaw (s : State) : Prop where
  beside : ∀ a x, s.engine.active = some a → s.engine.held = some x → x.beside a.op
  programs : ∀ i, s.inProgress (.program i) → (s.slot i).state = .programming
  programming : ∀ i, (s.slot i).state = .programming → s.inProgress (.program i)
  erasing : ∀ i, (s.slot i).state = .erasing →
    ∃ op, s.inProgress op ∧ op.isProgram = false ∧ op.targets i = true
  loads : ∀ a l, s.engine.active = some a → a.op = .load l → (s.slot l.slot).state = .blank
  unwraps : ∀ w l kx, s.cipher.work = some w → w.task = .unwrap l kx → s.engine.active.map (·.op) = some (.load l)
  silent : s.power = .off ∨ s.power = .held → s.engine.active = none ∧ s.engine.held = none ∧ s.cipher.work = none

/-- The states in which a slot holds a key. -/
def SlotState.holdsKey : SlotState → Bool
  | .programming | .loaded | .retired => true
  | _ => false

/-- A slot record has its fields exactly in PROGRAMMING, LOADED and RETIRED, its key is zeroised in every other state, and it
is in the retire-mark set only when RETIRED (R3, R14). -/
def Slot.Ok (x : Slot) : Prop :=
  x.fields.isSome = x.state.holdsKey ∧ (x.state.holdsKey = false → x.key = 0) ∧ (x.markPending = true → x.state = .retired)

/-- The law of the slot records (R3, R14), with the law of the engine that it rests on. -/
def SlotLaw (s : State) : Prop := EngineLaw s ∧ ∀ i, (s.slot i).Ok

/-- The law that keeps locked slots still (R16): no program or erase is in progress in a locked area, and no LOAD in PREPARING
targets one. -/
def LockLaw (s : State) : Prop :=
  EngineLaw s ∧
  (∀ i, s.lockedSlot i = true → (s.slot i).state ≠ .programming ∧ (s.slot i).state ≠ .erasing) ∧
  (∀ a l, s.engine.active = some a → a.op = .load l → s.lockedSlot l.slot = false)

/-! ## The ring (R28, R42) -/

/-- While a SET_GEOMETRY is being written, every slot of the present and of the new ring is BLANK (R42). -/
def RingsEmpty (s : State) : Prop :=
  ∀ a c0 r, s.engine.active = some a → a.op = .settings (.geometry c0) r →
    ∀ i, s.inRing i = true ∨ r.geometry.area i = .ring → (s.slot i).state = .blank

/-- The law of the ring: while it is LIVE every LOADED ring slot holds the generation that its position stands for (R28). -/
def RingLaw (s : State) : Prop :=
  EngineLaw s ∧ RingsEmpty s ∧
  (s.ring.live = true → ∀ i, s.inRing i = true → (s.slot i).state = .loaded → s.aligned i = true)

/-! ## Sessions and the cache (R56, R90) -/

/-- A LOADED ring slot holds a generation. -/
def State.ringHolds (s : State) (g : Gen) : Prop :=
  ∃ i, s.inRing i = true ∧ (s.slot i).state = .loaded ∧ (s.slot i).generation = some g

/-- Only ring slots hold generations, and a LOAD in PREPARING names one only for a ring slot (R3, R129). -/
def GenerationsInRing (s : State) : Prop :=
  (∀ i, (s.slot i).generation.isSome = true → s.inRing i = true) ∧
  (∀ a l, s.engine.active = some a → a.op = .load l → l.generation.isSome = true → s.inRing l.slot = true)

/-- The law of the session table: every open session's generation is held by a LOADED ring slot (R90). The law of the geometry
and window is the one under which the slot of a position is a ring slot (R25). -/
def SessionLaw (s : State) : Prop :=
  WindowLaw s ∧ SlotLaw s ∧ RingsEmpty s ∧ GenerationsInRing s ∧
  ∀ (l : LaneIx) (e : EntryIx) (x : Session), ((s.lane l).sessions[e]).session = some x → s.ringHolds x.generation

/-- The cache holds at most 32 entries, no two of the same tag ID and generation (R56). -/
def CacheOk (cache : List CacheEntry) : Prop :=
  cache.length ≤ 32 ∧ cache.Pairwise fun a b => ¬(a.tagId = b.tagId ∧ a.generation = b.generation)

/-- The law of the tag key cache (R56): at most 32 entries, no two of the same tag ID and generation, and every entry's
generation held by a LOADED ring slot inside the acceptance window. A SET_CURRENT is written only while the ring is UNSET. -/
def CacheLaw (s : State) : Prop :=
  WindowLaw s ∧ RingLaw s ∧ SlotLaw s ∧ GenerationsInRing s ∧
  (∀ a i g h, s.engine.active = some a → a.op = .setCurrent i g h → s.ring.live = false) ∧
  CacheOk s.cache ∧
  ∀ e ∈ s.cache, ∃ i, s.inRing i = true ∧ s.inWindow i = true ∧ (s.slot i).state = .loaded ∧
    (s.slot i).generation = some e.generation

/-! ## The receipt counter (R115) -/

/-- An operation of the write engine is one that writes the counter record for the counter as it stands: a reservation lifts the
limit, and a SET_COUNTER carries a base at or above next (R117, R121). -/
def Counter.suits (c : Counter) : Operation → Prop
  | .reservation limit _ => c.state = .running ∧ c.limit < limit ∧ limit ≤ Config.counterTop ∧ c.setting = false
  | .setCounter base limit =>
    (c.state ≠ .unset → c.next ≤ base) ∧ base ≤ limit ∧ limit ≤ Config.counterTop ∧ c.setting = true
  | _ => True

/-- The law of the receipt counter's state (R115). While RUNNING, next ≤ limit, next lies below the highest number and a good
counter record holds the limit; while EXHAUSTED both numbers, and a good record, are the highest. A reservation outstanding or being written is
marked in progress, one at a time, and none stands beside a SET_COUNTER (R121, R122). The law of the engine is the one it rests on. -/
structure CounterLaw (s : State) : Prop where
  engine : EngineLaw s
  running : s.counter.state = .running → s.counter.next ≤ s.counter.limit ∧ s.counter.next < Config.counterTop ∧
    s.counter.limit ≤ Config.counterTop ∧ (∀ v, s.array.counter = .good v → v = s.counter.limit)
  exhausted : s.counter.state = .exhausted → s.counter.next = Config.counterTop ∧ s.counter.limit = Config.counterTop ∧
    (∀ v, s.array.counter = .good v → v = s.counter.limit)
  record : ∀ v, s.array.counter = .good v → v ≤ Config.counterTop
  suits : ∀ a, s.engine.active = some a → s.counter.suits a.op
  request : ∀ r, s.engine.counterRequest = some r →
    s.counter.reserving = true ∧ s.counter.suits (.reservation r.limit r.retry)
  writing : ∀ a limit retry, s.engine.active = some a → a.op = .reservation limit retry →
    s.counter.reserving = true ∧ s.engine.counterRequest = none
  alone : ∀ a base limit, s.engine.active = some a → a.op = .setCounter base limit →
    s.counter.reserving = false ∧ s.engine.counterRequest = none
  setting : s.counter.setting = true → ∃ a base limit, s.engine.active = some a ∧ a.op = .setCounter base limit
  reserving : s.counter.reserving = true → s.engine.counterRequest.isSome = true ∨
    ∃ a limit retry, s.engine.active = some a ∧ a.op = .reservation limit retry

/-- The lowest receipt number that may still be issued: next, while the counter is RUNNING or EXHAUSTED; the limit of a good
counter record otherwise, at which a start-up resumes; none when no record is good (R115, R124). -/
def State.numberFloor (s : State) : Option Nat :=
  if s.counter.state = .unset then
    match s.array.counter with
    | .good v => some v
    | _ => none
  else some s.counter.next

/-! ## Keys (R15) -/

/-- A session without its tag key. -/
def Session.blind (x : Session) : Session := { x with kt := 0 }

/-- A lane without the tag keys of its sessions. -/
def Lane.blind (x : Lane) : Lane :=
  { x with sessions := Vector.ofFn fun e => { x.sessions[e] with session := (x.sessions[e]).session.map Session.blind } }

/-- The state without any slot key, tag key or key copy: those of the working image, the array, the cache and the sessions are
zero, and the work record of the cipher engine is empty. -/
def State.blind (s : State) : State :=
  { s with store := { s.store with slots := Vector.ofFn fun i => { s.store.slots[i] with key := 0 } },
           array := { s.array with slots := Vector.ofFn fun i => { s.array.slots[i] with key := 0 } },
           cache := s.cache.map fun e => { e with kt := 0 },
           lanes := Vector.ofFn fun l => (s.lanes[l]).blind,
           cipher := { s.cipher with work := none } }

end Sys2Proof.Machine
end

