-- ==== Sys2Proof/Certificates/Slice0/Obligations.lean ====
section
/-! DEFINITION. The statements for the provers: what each command does, with everything that it leaves alone, and the laws that
every step keeps. A statement names the rules of the spec that it follows. -/

section

open Sys2Proof Sys2Proof.Machine

/-! ## The queue of commands and the laws of the part -/

/-- A step takes the command at the front of the queue and runs it with the queue's rest. On an empty queue one microsecond
passes, which is the model's own choice (assumption 1). -/
def Obligations.StepTakesTheFront : Prop :=
  (∀ (c : Instr) (rest : List Instr) (s : State), s.pending = c :: rest → step s = exec c { s with pending := rest }) ∧
  (∀ s : State, s.pending = [] → step s = .next (s.wait 1))

/-- Every command answers a next state in every state, and leaves the commands that wait as they are: the part has no trap, and
whatever goes wrong in it is a response, a result code, an event flag, a slot state or a note. The model's own choice in it is
entry 3 of the log. -/
def Obligations.EveryCommandAnswersNext : Prop :=
  ∀ (c : Instr) (s : State), ∃ t, exec c s = .next t ∧ t.pending = s.pending

/-- The state after reset keeps every law stated below. The model's own choices in it are entries 9 and 34 of the log. -/
def Obligations.ResetKeepsTheLaws : Prop :=
  QueueLaw State.reset ∧ WindowLaw State.reset ∧ SlotLaw State.reset ∧ LockLaw State.reset ∧ RingLaw State.reset ∧
    SessionLaw State.reset ∧ CacheLaw State.reset ∧ CounterLaw State.reset ∧ RstLaw State.reset

/-- Job and result queues hold at most eight each, and every result finds room (R70, R78, R83). -/
def Obligations.QueueLawKept : Prop := Kept QueueLaw

/-- The law of the geometry and window (R22). -/
def Obligations.WindowLawKept : Prop := Kept WindowLaw

/-- Slot records have their fields and keys exactly in the states that R3 gives them, and a slot is PROGRAMMING or ERASING
only while the program or erase that made it so is in progress (R3, R13, R14, R144). -/
def Obligations.SlotLawKept : Prop := Kept SlotLaw

/-- No program, erase or LOAD is ever in progress in a locked area (R16). The law of locked slots (R16): but for a start-up,
a reset and a loss of power, no command changes the state, the fields or the key of a slot that lies in a locked area. -/
def Obligations.LockedSlotsStandStill : Prop :=
  (Kept LockLaw) ∧
  (∀ (c : Instr) (s t : State) (i : SlotIx), LockLaw s → exec c s = .next t → s.lockedSlot i = true →
     c ≠ .powerOn → c ≠ .powerLoss → c ≠ .rstAssert → c ≠ .rstRelease → c ≠ .softReset →
     (t.slot i).state = (s.slot i).state ∧ (t.slot i).fields = (s.slot i).fields ∧ (t.slot i).key = (s.slot i).key)

/-- The law of the ring (R28): while it is LIVE every LOADED ring slot holds the generation of its position. -/
def Obligations.RingLawKept : Prop := Kept RingLaw

/-- The law of the session table (R90): every open session's generation is held by a LOADED ring slot. -/
def Obligations.SessionLawKept : Prop := Kept SessionLaw

/-- The law of the tag key cache (R56): at most 32 entries, no two alike, each with its generation held by a LOADED ring slot
inside the acceptance window. -/
def Obligations.CacheLawKept : Prop := Kept CacheLaw

/-- While the receipt counter is RUNNING, next ≤ limit, and a good counter record holds the limit (R115). Receipt numbers
never fall back, across resets and losses of power, from one SET_COUNTER to the next: the lowest number that may still be
issued rises or stays, or no trustworthy record is left and none can be issued (R115, R124). -/
def Obligations.ReceiptNumbersNeverFall : Prop :=
  (Kept CounterLaw) ∧
  (∀ (c : Instr) (s t : State) (n : Nat), CounterLaw s → exec c s = .next t → (∀ v, c ≠ .setCounterComplete v) →
     s.numberFloor = some n → t.numberFloor = none ∨ ∃ m, t.numberFloor = some m ∧ n ≤ m)

/-- The second law of the key store (R15): what any port answers does not depend on any slot key, tag key or key copy that
the part holds. -/
def Obligations.ResponsesDoNotDependOnKeys : Prop :=
  ∀ (c : Instr) (s t u : State) (p : Port), exec c s = .next t → exec c s.blind = .next u →
    (t.port p).response = (u.port p).response

/-! ## Frames and ports -/

/-- A request frame of an assigned code, with its length byte and its check byte, is read as its command, with every payload of
up to 64 bytes (R174, R175, R186). The model's own choices in it are entries 22 and 35 of the log. -/
def Obligations.FramesReadBack : Prop :=
  ∀ (c : Instr) (p : Port) (code : Byte) (payload : List Byte), c.request = some (p, code, payload) → c.wellFormed = true →
    receive p (requestFrame code payload) true = c

/-- A response frame is its status byte, its length byte, its payload and the check byte that makes the sum of its bytes 0
modulo 256 (R174). The codes of status, result and outcome, and the bytes of a job kind, a port state and of a program or erase
with its target are those of section 10.7 (R186). -/
def Obligations.ResponseFramesAreLaidOut : Prop :=
  (∀ r : Response, r.frame.foldl (· + ·) (0 : Byte) = 0 ∧
     ∃ check : Byte, r.frame = [r.status.byte, BitVec.ofNat 8 r.payload.length] ++ r.payload ++ [check]) ∧
  (∀ row ∈ ([(.ok, 0x00), (.accepted, 0x01), (.queued, 0x02), (.noResult, 0x03), (.starting, 0x08), (.notSynced, 0x09),
       (.portHalted, 0x0A), (.portDisabled, 0x0B), (.identityMismatch, 0x0C), (.checkFail, 0x0D), (.unknownCommand, 0x0E),
       (.badLength, 0x0F), (.noPermit, 0x10), (.busy, 0x11), (.suspended, 0x12), (.areaProtected, 0x13), (.locked, 0x14),
       (.frozen, 0x15), (.badArgument, 0x16), (.badArea, 0x17), (.resetNotArmed, 0x18), (.badSlot, 0x20), (.badPosition, 0x21),
       (.ringUnset, 0x22), (.notBlank, 0x23), (.badUsage, 0x24), (.manifestMismatch, 0x25), (.notLoaded, 0x26),
       (.inService, 0x27), (.nextNotLoaded, 0x28), (.notPending, 0x29), (.windowConflict, 0x2A), (.badGeometry, 0x2B),
       (.ringInUse, 0x2C), (.areaInUse, 0x2D), (.ringLive, 0x2E), (.genMissing, 0x2F), (.counterBelow, 0x30),
       (.notSuspendable, 0x31), (.alreadySuspended, 0x32), (.tooSoon, 0x33), (.notSuspended, 0x34), (.badKind, 0x38),
       (.queueFull, 0x39), (.pass, 0x40), (.fail, 0x41), (.expired, 0x42), (.noGeneration, 0x43), (.tooOld, 0x44),
       (.tooNew, 0x45), (.genRetired, 0x46), (.laneDenied, 0x47), (.sessionUnknown, 0x48), (.sessionState, 0x49),
       (.badKeySlot, 0x4A), (.counterUnset, 0x4B), (.counterExhausted, 0x4C), (.programOk, 0x50), (.loadedStale, 0x51),
       (.programFail, 0x52), (.kcvMismatch, 0x53), (.transportGone, 0x54), (.eraseOk, 0x55), (.eraseFail, 0x56),
       (.settingsOk, 0x57), (.settingsFail, 0x58), (.recordOk, 0x59), (.recordFail, 0x5A)] : List (Code × Byte)),
     row.1.byte = row.2) ∧
  (JobKind.answer.byte = 0x01 ∧ JobKind.verify.byte = 0x02 ∧ JobKind.seal.byte = 0x03) ∧
  (PortState.starting.byte = 0x00 ∧ PortState.resync.byte = 0x01 ∧ PortState.ready.byte = 0x02 ∧
    PortState.halted.byte = 0x03 ∧ PortState.disabled.byte = 0x04) ∧
  (∀ i : SlotIx, (SlotOp.program i).byte = 0x02 ∧ (SlotOp.program i).target.byte = BitVec.ofNat 8 i.val ∧
    (SlotOp.eraseSlot i).byte = 0x03 ∧ (SlotOp.eraseSlot i).target.byte = BitVec.ofNat 8 i.val) ∧
  (∀ k : Fin 8, (SlotOp.eraseBank k).byte = 0x04 ∧ (SlotOp.eraseBank k).target.byte = BitVec.ofNat 8 k.val)

/-- On a port that examines frames, a frame cut short or overlong, a frame whose sum is wrong and a frame of an unknown code
are counted by their kinds and answered nothing, CHECK_FAIL and UNKNOWN_COMMAND; and a frame of an assigned code whose payload
has not the length of its command, the empty SUBMIT among them, is counted as a COMMAND error and answered BAD_LENGTH, whether
or not the port admits the command (R175). Of these the checked-good frames clear the reset-arm flag (R184). A counted error
increments the counter of its kind, which stays at 255 in HOLD mode and passes to 0 in WRAP mode. When the increment makes it
equal to the threshold and the kind is in the halt mask, a port in RESYNC or READY enters HALTED, and PORT is set on the site
port. Nothing else changes (R180). The model's own choice in it is entry 22 of the log. -/
def Obligations.ErrorFramesAreCounted : Prop :=
  (∀ (s : State) (p : Port), s.Examines p →
     (∀ how, exec (.frameError p how) s = .next ((s.countError p .frame).answer p none)) ∧
     exec (.checkFail p) s = .next ((s.countError p .check).answer p (some { status := .checkFail, payload := [] })) ∧
     (∀ code, exec (.unknownCommand p code) s =
       .next (((s.disarm p).countError p .command).answer p (some { status := .unknownCommand, payload := [] })))) ∧
  (∀ (c : Instr) (s : State) (p : Port) (code : Byte) (payload : List Byte), s.Examines p →
     c.request = some (p, code, payload) →
     (64 < payload.length → exec c s = .next ((s.countError p .frame).answer p none)) ∧
     (payload.length ≤ 64 → ¬lengthFits p code payload.length →
       exec c s = .next (((s.disarm p).countError p .command).answer p (some { status := .badLength, payload := [] })))) ∧
  (∀ (s : State) (p : Port) (k : ErrorKind),
     let n := (s.port p).count k
     let m := if n = 255 ∧ s.monitor.wraps k = false then 255 else n + 1
     let reached := m ≠ n ∧ m = s.monitor.threshold ∧ s.monitor.halts k = true
     let t := s.countError p k
     (t.port p).count k = m ∧
     (∀ k', k' ≠ k → (t.port p).count k' = (s.port p).count k') ∧
     (reached → (t.port p).state = (s.port p).state.halt ∧ t.site.flags = s.site.flags ||| SiteFlag.port.bit) ∧
     (¬reached → (t.port p).state = (s.port p).state ∧ t.site.flags = s.site.flags) ∧
     (∀ q, q ≠ p → t.port q = s.port q) ∧
     t = { s with lanes := t.lanes, site := { s.site with port := t.site.port, flags := t.site.flags } } ∧
     (∀ l, t.lane l = { s.lane l with port := (t.lane l).port }))

/-- In STARTING and DISABLED no frame is examined and nothing is counted: every frame that reaches the place of its check byte
is answered STARTING or PORT_DISABLED, whatever its contents, a frame cut short is answered nothing, and neither does anything
else (R175, R176). In reset and without power no frame is answered (R185). A port in RESYNC or HALTED admits SYNC alone: the
frame of another command goes through the examination of R175, overlong or of a wrong length as on a READY port, and is
otherwise answered NOT_SYNCED or PORT_HALTED, with no effect but that of a checked-good frame (R175, R176, R184). The model's
own choice in it is entry 22 of the log. -/
def Obligations.ClosedPortsTakeNothing : Prop :=
  (∀ (c : Instr) (s : State) (p : Port),
     (∃ code payload, c.request = some (p, code, payload)) ∨ c = .checkFail p ∨ (∃ code, c = .unknownCommand p code) ∨
       c = .frameError p (.overlong true) →
     (s.power = .off ∨ s.power = .held → exec c s = .next (s.answer p none)) ∧
     (s.power = .starting → exec c s = .next (s.answer p (some { status := .starting, payload := [] }))) ∧
     (s.power = .running → (s.port p).state = .disabled →
       exec c s = .next (s.answer p (some { status := .portDisabled, payload := [] })))) ∧
  (∀ (s : State) (p : Port) (how : FrameFault), how ≠ .overlong true →
     s.power = .off ∨ s.power = .held ∨ s.power = .starting ∨ (s.power = .running ∧ (s.port p).state = .disabled) →
     exec (.frameError p how) s = .next (s.answer p none)) ∧
  (∀ (c : Instr) (s : State) (p : Port) (code : Byte) (payload : List Byte),
     c.request = some (p, code, payload) → c.isSync = false → s.power = .running →
     (s.port p).state = .resync ∨ (s.port p).state = .halted →
     (64 < payload.length → exec c s = .next ((s.countError p .frame).answer p none)) ∧
     (payload.length ≤ 64 → ¬lengthFits p code payload.length →
       exec c s = .next (((s.disarm p).countError p .command).answer p (some { status := .badLength, payload := [] }))) ∧
     (payload.length ≤ 64 → lengthFits p code payload.length →
       exec c s = .next ((s.disarm p).answer p
         (some { status := if (s.port p).state = .resync then .notSynced else .portHalted, payload := [] }))))

/-- An accepted SYNC readies the port, with its error counters at 0. On a lane port the lane number and the site code must
agree; the lane's context is discarded, a job of it in the engine is detached, and its flags and enables clear; the serials
stay. On the site port the code must agree, or be any while the configured code is 0, and no flag or enable changes. A
refused SYNC changes no port and sets PORT (R85, R86, R106, R177). -/
def Obligations.SyncReadiesAPort : Prop :=
  (∀ (s : State) (l : LaneIx) (a b : Byte), s.Examines (.lane l) → a ++ b = s.siteCode →
    exec (.sync (.lane l) [numByte l.val, a, b]) s = .next
      ({ s with cipher := s.cipher.detach l }.setLane l
        { port := { state := .ready, checkCount := 0, frameCount := 0, commandCount := 0,
                    response := some { status := .ok, payload := [] } },
          flags := 0, enables := 0, jobs := [], results := [], counterWait := false,
          sessions := Vector.ofFn fun e => { (s.lane l).sessions[e] with session := none } })) ∧
  (∀ (s : State) (a b : Byte), s.Examines .site → (a ++ b = s.siteCode ∨ s.siteCode = 0) →
    exec (.sync .site [a, b]) s = .next
      { s with site := { s.site with port := { state := .ready, checkCount := 0, frameCount := 0, commandCount := 0,
                                               response := some { status := .ok, payload := [] } },
                                     resetArm := false } }) ∧
  (∀ (s : State) (l : LaneIx) (n a b : Byte), s.Examines (.lane l) → (n ≠ numByte l.val ∨ a ++ b ≠ s.siteCode) →
    exec (.sync (.lane l) [n, a, b]) s = .next ((s.flagSite .port).heard (.lane l) .identityMismatch [])) ∧
  (∀ (s : State) (a b : Byte), s.Examines .site → a ++ b ≠ s.siteCode → s.siteCode ≠ 0 →
    exec (.sync .site [a, b]) s = .next ((s.flagSite .port).heard .site .identityMismatch []))

/-- STATUS and SLOT_INFO change nothing but the transaction, and answer the bytes of section 10.7: 12 on a lane port, 55 on the
site port, 14 for a slot; an index above 63 answers BAD_SLOT (R18, R183, R186). Where the spec states no value for a field (the
origin and the remaining time with no active operation, the remaining time of a LOAD in PREPARING, the holder and the remaining
time with nothing held) the statement says nothing of its bytes. The model's own choices in it are entries 7 and 20 of the
log. -/
def Obligations.ReportsChangeNothing : Prop :=
  let byte := fun n : Nat => (BitVec.ofNat 8 n : Byte)
  let two := fun n : Nat => [byte (n / 256), byte n]
  let four := fun n : Nat => [byte (n / 16777216), byte (n / 65536), byte (n / 256), byte n]
  let flag := fun (b : Bool) (weight : Byte) => if b = true then weight else 0
  let commandCode := fun c : SettingsCommand => (match c with
    | .rotation => 0x32 | .window => 0x33 | .geometry _ => 0x34 | .protect _ => 0x38 | .lock _ => 0x39 | .freeze => 0x3A
    | .site => 0x3B | .lanes => 0x3C : Byte)
  let portByte := fun x : PortState => (match x with
    | .starting => 0 | .resync => 1 | .ready => 2 | .halted => 3 | .disabled => 4 : Byte)
  (∀ (s : State) (l : LaneIx), s.Admits (.lane l) →
    let x := s.lane l
    let opened := (List.finRange 4).filter fun e : EntryIx => (x.sessions[e]).session.isSome
    exec (.status (.lane l) []) s = .next (s.heard (.lane l) .ok
      ([0x02, byte x.jobs.length, byte x.results.length, byte opened.length, flag x.counterWait 1, flag s.ring.live 1] ++
       two s.ring.c.toNat ++ [byte s.ring.back, byte s.ring.ahead,
         flag (!x.results.isEmpty) 1 + flag (x.flags.getLsbD 1) 2 + flag (x.flags.getLsbD 2) 4 + flag (x.flags.getLsbD 3) 8,
         byte x.enables.toNat]))) ∧
  (∀ s : State, s.Admits .site → ∃ active held : List Byte,
    exec (.status .site []) s = .next (s.heard .site .ok
      ([flag s.ring.live 1] ++ two s.ring.c.toNat ++ [byte s.ring.h] ++
       [byte s.store.geometry.head, byte s.store.geometry.ring, byte (64 - s.store.geometry.head - s.store.geometry.ring),
        byte s.ring.back, byte s.ring.ahead] ++ four s.ring.period ++ four s.ring.remaining ++
       [flag s.ring.rotationPending 1 + flag s.engine.permit 2 + flag s.protection.wpl 4 + flag s.protection.freeze 8] ++
       active ++ held ++
       (match s.engine.lastOutcome with
        | none => [0, 0, 0]
        | some o => [
          (match o.kind with | .program => 1 | .erase => 2 | .settings => 3 | .genRecord => 4 | .counterRecord => 5),
          (match o.target with | .slot i => byte i.val | .bank k => byte k.val | .command c => commandCode c | .none => 0xFF),
          o.code.byte]) ++
       [flag s.engine.faults.settings 1 + flag s.engine.faults.generation 2 + flag s.engine.faults.counter 4 +
        flag s.engine.faults.retireMarks 8] ++
       (match s.counter.state with
        | .unset => [0, 0, 0, 0, 0, 0, 0, 0, 0]
        | .running => [1] ++ four s.counter.next ++ four s.counter.limit
        | .exhausted => [2] ++ four s.counter.next ++ four s.counter.limit) ++
       [flag s.protection.head.effective 1 + flag s.protection.tail.effective 2 + flag s.protection.head.lock 4 +
        flag s.protection.tail.lock 8,
        flag s.notes.slotsDamaged 1 + flag s.notes.genRecordLost 2 + flag s.notes.settingsLost 4 + flag s.notes.soft 8,
        byte s.site.flags.toNat, byte s.site.enables.toNat,
        portByte (s.lane 0).port.state, portByte (s.lane 1).port.state, portByte (s.lane 2).port.state,
        portByte (s.lane 3).port.state, byte s.laneEnable.toNat] ++
       two s.siteCode.toNat ++ [byte s.cache.length, byte s.sessionLife])) ∧
    (s.engine.active = none → ∃ origin r1 r0, active = [0, 0, origin, 0xFF, r1, r0]) ∧
    (∀ op left, s.engine.active = some { op := op, remaining := left } →
      match op with
      | .load load => ∃ r1 r0, active = [1, 1, 1, byte load.slot.val, r1, r0]
      | .slotOp (.program i) => active = [2, 2, 1, byte i.val] ++ two left
      | .slotOp (.eraseSlot i) => active = [2, 3, 1, byte i.val] ++ two left
      | .slotOp (.eraseBank k) => active = [2, 4, 1, byte k.val] ++ two left
      | .settings c _ => active = [2, 5, 1, commandCode c] ++ two left
      | .setCurrent _ _ _ => active = [2, 6, 1, 0xFF] ++ two left
      | .genRecord _ _ _ => active = [2, 6, 2, 0xFF] ++ two left
      | .setCounter _ _ => active = [2, 7, 1, 0xFF] ++ two left
      | .reservation _ _ => active = [2, 7, 2, 0xFF] ++ two left
      | .retireMarks _ _ => active = [2, 8, 2, 0xFF] ++ two left) ∧
    (s.engine.held = none → ∃ by_ r1 r0, held = [0, by_, 0xFF, r1, r0]) ∧
    (∀ op left who, s.engine.held = some { op := op, remaining := left, by_ := who } →
      let whose : Byte := match who with | .site => 1 | .auto => 2
      match op with
      | .program i => held = [2, whose, byte i.val] ++ two left
      | .eraseSlot i => held = [3, whose, byte i.val] ++ two left
      | .eraseBank k => held = [4, whose, byte k.val] ++ two left)) ∧
  (∀ (s : State) (i : SlotIx), s.Admits .site →
    let x := s.slot i
    let start := s.store.geometry.head
    let area : Byte := if i.val < start then 1 else if i.val < start + s.store.geometry.ring then 2 else 3
    let placed := s.ring.live && s.inRing i
    let position : List Byte :=
      if placed = true then [BitVec.ofInt 8 (s.slotPosition i / 256), BitVec.ofInt 8 (s.slotPosition i)] else [0, 0]
    exec (.slotInfo [byte i.val]) s = .next (s.heard .site .ok
      ([byte i.val,
        (match x.state with | .blank => 0 | .programming => 1 | .loaded => 2 | .retired => 3 | .erasing => 4 | .damaged => 5),
        area] ++
       (match x.fields with
        | none => [flag placed 4, 0, 0, 0, 0, 0, 0, 0]
        | some f => [1 + flag f.generation.isSome 2 + flag placed 4,
            (match f.usage with | .tagRoot => 1 | .receipt => 2 | .transport => 3), byte f.laneMask.toNat] ++
          (match f.generation with | some g => two g.toNat | none => [0, 0]) ++
          [byte (f.checkValue.toNat / 65536), byte (f.checkValue.toNat / 256), byte f.checkValue.toNat]) ++
       position ++ [flag x.markPending 1]))) ∧
  (∀ (s : State) (b : Byte), s.Admits .site → 64 ≤ b.toNat →
    exec (.slotInfo [b]) s = .next (s.heard .site .badSlot []))

/-- SET_EVENTS replaces the port's enables with the byte's flags, and ACK_EVENTS clears the flags named, except RESULT, which
follows the result queue. Each answers the flags and the enables after the change. The attention line of a port is high exactly
while a flag is both set and enabled, and low while the part does not run (R182, R185). -/
def Obligations.EventCommands : Prop :=
  (∀ (s : State) (b : Byte),
    (∀ l, s.Admits (.lane l) →
      (let t := s.setLane l { s.lane l with enables := b.setWidth 4 }
       exec (.setEvents (.lane l) [b]) s =
         .next (t.heard (.lane l) .ok [(t.lane l).flagsRead.setWidth 8, (t.lane l).enables.setWidth 8])) ∧
      (let t := s.setLane l { s.lane l with flags := (s.lane l).flags &&& ~~~(b.setWidth 4) }
       exec (.ackEvents (.lane l) [b]) s =
         .next (t.heard (.lane l) .ok [(t.lane l).flagsRead.setWidth 8, (t.lane l).enables.setWidth 8]))) ∧
    (s.Admits .site →
      (let t := { s with site := { s.site with enables := b.setWidth 7 } }
       exec (.setEvents .site [b]) s = .next (t.heard .site .ok [t.site.flags.setWidth 8, t.site.enables.setWidth 8])) ∧
      (let t := { s with site := { s.site with flags := s.site.flags &&& ~~~(b.setWidth 7) } }
       exec (.ackEvents .site [b]) s =
         .next (t.heard .site .ok [t.site.flags.setWidth 8, t.site.enables.setWidth 8])))) ∧
  (∀ (s : State) (l : LaneIx), s.attention (.lane l) = true ↔ s.power = .running ∧
    (((s.lane l).results ≠ [] ∧ (s.lane l).enables.getLsbD 0 = true) ∨
      ∃ k, 1 ≤ k ∧ k ≤ 3 ∧ (s.lane l).flags.getLsbD k = true ∧ (s.lane l).enables.getLsbD k = true)) ∧
  (∀ s : State, s.attention .site = true ↔ s.power = .running ∧
    ∃ k, k ≤ 6 ∧ s.site.flags.getLsbD k = true ∧ s.site.enables.getLsbD k = true)

/-- SET_PORT_MONITOR takes its three bytes at once, and refuses a threshold of 0 and unassigned bits. PERMIT, RESET_ARM and
RESET (R147, R184): PERMIT sets or clears the permit; an accepted RESET_ARM sets the reset-arm flag, which every other checked-
good frame of the site port clears; RESET is taken only while the flag is set, and its soft reset then awaits the release of
select. The model's own choices in it are entries 18 and 19 of the log. -/
def Obligations.PermitMonitorAndReset : Prop :=
  (∀ (s : State) (modes threshold mask : Byte), s.Admits .site →
     (threshold ≠ 0 → modes.toNat < 8 → mask.toNat < 8 →
       exec (.setPortMonitor [modes, threshold, mask]) s = .next
         ({ s with monitor := { checkWrap := modes.getLsbD 0, frameWrap := modes.getLsbD 1, commandWrap := modes.getLsbD 2,
                                threshold := threshold, haltCheck := mask.getLsbD 0, haltFrame := mask.getLsbD 1,
                                haltCommand := mask.getLsbD 2 } }.heard .site .ok [modes, threshold, mask])) ∧
     (threshold = 0 ∨ 8 ≤ modes.toNat ∨ 8 ≤ mask.toNat →
       exec (.setPortMonitor [modes, threshold, mask]) s = .next (s.heard .site .badArgument []))) ∧
  (∀ s : State, s.Admits .site →
     (∀ b : Byte, exec (.permit [b]) s = .next
       ({ s with engine := { s.engine with permit := b != 0 } }.heard .site .ok [if b = 0 then 0 else 1])) ∧
     exec (.resetArm []) s = .next
       (let t := s.heard .site .ok []
        { t with site := { t.site with resetArm := true } }) ∧
     (s.site.resetArm = true → exec (.reset []) s = .next
       ({ s with site := { s.site with resetTaken := true } }.heard .site .ok [])) ∧
     (s.site.resetArm = false → exec (.reset []) s = .next (s.heard .site .resetNotArmed [])))

/-- READ_COUNTS and CLEAR_COUNTS (R181): the named port's number, state and counts, and its three counters set to 0 with its
state as it was. Neither reads or changes the permit. -/
def Obligations.CountsAreReadAndCleared : Prop :=
  (∀ (s : State) (b : Byte) (p : Port), s.Admits .site →
    (b.toNat = 4 ∧ p = .site) ∨ (∃ l : LaneIx, b.toNat = l.val ∧ p = .lane l) →
    exec (.readCounts [b]) s = .next (s.heard .site .ok
      [b, (s.port p).state.byte, (s.port p).checkCount, (s.port p).frameCount, (s.port p).commandCount]) ∧
    exec (.clearCounts [b]) s = .next
      ((s.setPort p { s.port p with checkCount := 0, frameCount := 0, commandCount := 0 }).heard .site .ok [])) ∧
  (∀ (s : State) (b : Byte), s.Admits .site → 4 < b.toNat →
    exec (.readCounts [b]) s = .next (s.heard .site .badArgument []) ∧
    exec (.clearCounts [b]) s = .next (s.heard .site .badArgument []))

/-! ## Supply, start-up and the lines -/

/-- Power-on with RST inactive, the release of RST and the soft reset begin start-up (R184, R185). Power-on while RST is active
leaves the part waiting in reset, and only a part that waits so or has no power has an active RST. Start-up begins with the
time base at 0, 4 ms to run, both engines empty, every lane cleared, the cache empty, no permit, and the non-volatile array as
it stands. A soft reset keeps the monitor settings, the session lifetime and the site enables; every other start-up sets them
to their initial values. No start-up takes a level of the WPL or RST line or a waiting command away. The model's own choices in
it are entries 1, 10, 18, 21 and 34 of the log. -/
def Obligations.StartUpBegins : Prop :=
  Kept RstLaw ∧
  ∀ s : State,
    (s.power = .off → s.rst = false → exec .powerOn s = .next (s.startUp false)) ∧
    (s.power = .off → s.rst = true → exec .powerOn s = .next { s with power := .held }) ∧
    (s.power = .held → exec .rstRelease s = .next (({ s with rst := false } : State).startUp false)) ∧
    (s.power = .off → exec .rstAssert s = .next { s with rst := true } ∧ exec .rstRelease s = .next { s with rst := false }) ∧
    (s.power = .running → s.site.resetTaken = true → exec .softReset s = .next (s.abandon.startUp true)) ∧
    ∀ soft : Bool,
      let t := s.startUp soft
      t.power = .starting ∧ t.clock = { time := 0, tenths := 0, startupLeft := 4000, rotLeft := 0 } ∧ t.array = s.array ∧
      t.cipher = { work := none, lastGranted := .site } ∧ t.cache = [] ∧
      (∀ l, t.lane l = { port := PortUnit.initial, flags := 0, enables := 0, jobs := [], results := [], counterWait := false,
                         sessions := Vector.replicate 4 { serial := 0, session := none } }) ∧
      t.engine.active = none ∧ t.engine.held = none ∧ t.engine.permit = false ∧ t.engine.genRequest = none ∧
      t.engine.lastOutcome = none ∧ t.engine.lastResume = none ∧ t.engine.restLeft = 0 ∧
      t.site.port = PortUnit.initial ∧ t.site.resetArm = false ∧ t.site.resetTaken = false ∧
      t.site.enables = (if soft then s.site.enables else 0x7F) ∧ t.monitor = (if soft then s.monitor else Monitor.initial) ∧
      t.sessionLife = (if soft then s.sessionLife else 40) ∧ t.notes.soft = soft ∧
      t.protection.wpl = s.protection.wpl ∧ t.rst = s.rst ∧ t.pending = s.pending

/-- What start-up takes from the single records (R47, R124, R160, R162, R178): the settings of a good settings record, or the
factory settings with the note; LIVE with C and h of a good LIVE generation record whose h lies below N, or UNSET with the
note; the receipt counter RUNNING at the limit of a good record with a reservation requested, EXHAUSTED at the highest number,
UNSET without a good record; and the locks from their cells, with no overlay. The model's own choice in it is entry 21 of the
log. -/
def Obligations.StartUpTakesTheRecords : Prop :=
  ∀ (s : State) (soft : Bool),
    let t := s.startUp soft
    let set := match s.array.settings with | .good v => v | _ => Settings.factory
    let lost := !s.array.settings.isGood
    t.settings = set ∧ t.notes.settingsLost = lost ∧ t.engine.faults.settings = lost ∧
    t.ring.remaining = set.period ∧ t.ring.rotationPending = false ∧
    (∀ g, s.array.generation = .good g → g.live = true → g.h < set.geometry.ring →
      t.ring.live = true ∧ t.ring.c = g.c ∧ t.ring.h = g.h ∧ t.notes.genRecordLost = false ∧
      t.engine.faults.generation = false) ∧
    ((∀ g, s.array.generation = .good g → g.live = false ∨ set.geometry.ring ≤ g.h) →
      t.ring.live = false ∧ t.notes.genRecordLost = true ∧ t.engine.faults.generation = true) ∧
    (∀ v, s.array.counter = .good v → v < 4294967295 →
      t.counter = { state := .running, next := v, limit := v, reserving := true, setting := false } ∧
      t.engine.counterRequest = some { limit := min (v + 4096) 4294967295, retry := false } ∧
      t.site.flags = 0 ∧ t.engine.faults.counter = false) ∧
    (s.array.counter = .good 4294967295 →
      t.counter = { state := .exhausted, next := 4294967295, limit := 4294967295, reserving := false, setting := false } ∧
      t.engine.counterRequest = none ∧ t.site.flags = SiteFlag.counter.bit ∧ t.engine.faults.counter = false) ∧
    (s.array.counter.isGood = false →
      t.counter.state = .unset ∧ t.engine.counterRequest = none ∧ t.site.flags = SiteFlag.counter.bit ∧
      t.engine.faults.counter = true) ∧
    t.protection.head = { nv := set.headProtect, overlayValid := false, overlay := false, lock := s.array.headCell } ∧
    t.protection.tail = { nv := set.tailProtect, overlayValid := false, overlay := false, lock := s.array.tailCell }

/-- The working image at start-up (R19 to R21, R28): an erased record is a BLANK slot; a good record under PROGRAM_ENDED or
RETIRE_MARKED whose usage fits the slot's area gives LOADED or RETIRED with its key and fields, the generation only in the
ring; every other record gives DAMAGED. A LOADED ring slot that does not hold the generation of its position in a LIVE ring
is then retired. The note SLOTS_DAMAGED is set exactly when some slot is DAMAGED. -/
def Obligations.StartUpClassifiesTheSlots : Prop :=
  (∀ (s : State) (soft : Bool),
    (s.startUp soft).notes.slotsDamaged = true ↔ ∃ i, ((s.startUp soft).slot i).state = .damaged) ∧
  ∀ (s : State) (soft : Bool) (i : SlotIx),
    let t := s.startUp soft
    let x := s.nvSlot i
    let fits := fun f : SlotFields => (f.usage = .tagRoot ↔ t.areaOf i = .ring)
    (x = NvSlot.empty → t.slot i = Slot.empty) ∧
    (∀ f, x.checkGood = true → x.fields = some f → fits f →
      let kept : SlotFields := { f with generation := if t.areaOf i = .ring then f.generation else none }
      let stale := t.areaOf i = .ring ∧ t.ring.live = true ∧ f.generation ≠ some (t.ring.standsFor t.store.geometry i)
      (x.marker = .retireMarked →
        t.slot i = { state := .retired, fields := some kept, key := x.key, markPending := false }) ∧
      (x.marker = .programEnded → ¬stale →
        t.slot i = { state := .loaded, fields := some kept, key := x.key, markPending := false }) ∧
      (x.marker = .programEnded → stale →
        t.slot i = { state := .retired, fields := some kept, key := x.key, markPending := true })) ∧
    (x ≠ NvSlot.empty →
      ¬(x.checkGood = true ∧ (x.marker = .programEnded ∨ x.marker = .retireMarked) ∧ ∃ f, x.fields = some f ∧ fits f) →
      t.slot i = { state := .damaged, fields := none, key := 0, markPending := false })

/-- A loss of power and the assertion of RST abandon what is in progress (R159, R185). The array keeps everything but what the
write that was cut off touches: the single record it was writing reads damaged, a lock cell it was writing may be written, and
each slot a retire-mark write had taken has its old marker or the new one. The engines are empty, ROT is low, the levels of the
lines stand, and the commands that wait stay. The model's own choices in it are entries 5, 6, 11, 23, 26 and 34 of the log. -/
def Obligations.AbandonedWorkLeavesTheArray : Prop :=
  ∀ s : State, ∃ t u : State,
    (s.power ≠ .off → exec .powerLoss s = .next t) ∧
    (s.power = .starting ∨ s.power = .running → exec .rstAssert s = .next u) ∧
    t.power = .off ∧ t.rst = s.rst ∧ t.rotHigh = false ∧ u = { t with power := .held, rst := true } ∧
    t.engine.active = none ∧ t.engine.held = none ∧ t.cipher.work = none ∧ t.protection.wpl = s.protection.wpl ∧
    t.pending = s.pending ∧
    (let op := s.engine.active.map (·.op)
     let settingsCut := ∃ c r, op = some (.settings c r)
     let generationCut := (∃ c r, op = some (.settings (.geometry c) r)) ∨ (∃ i c h, op = some (.setCurrent i c h)) ∨
       (∃ c h r, op = some (.genRecord c h r))
     let counterCut := (∃ b m, op = some (.setCounter b m)) ∨ (∃ m r, op = some (.reservation m r))
     let headCut := ∃ r, op = some (.settings (.lock .head) r)
     let tailCut := ∃ r, op = some (.settings (.lock .tail) r)
     (settingsCut → t.array.settings = .damaged) ∧ (¬settingsCut → t.array.settings = s.array.settings) ∧
     (generationCut → t.array.generation = .damaged) ∧ (¬generationCut → t.array.generation = s.array.generation) ∧
     (counterCut → t.array.counter = .damaged) ∧ (¬counterCut → t.array.counter = s.array.counter) ∧
     (s.array.headCell = true ∨ ¬headCut → t.array.headCell = s.array.headCell) ∧
     (s.array.tailCell = true ∨ ¬tailCut → t.array.tailCell = s.array.tailCell) ∧
     ∀ i, t.nvSlot i = s.nvSlot i ∨
       ∃ taken retry, op = some (.retireMarks taken retry) ∧ i ∈ taken ∧
         t.nvSlot i = { s.nvSlot i with marker := .retireMarked })

/-- The end of start-up (R176, R182): after the 4 ms every lane port enters RESYNC when its lane is enabled and DISABLED when
it is not, the site port enters RESYNC, and STARTED is set. Nothing else changes but by the time that has passed. WPL_CHANGE
moves the level of the line and nothing else, and the part is frozen exactly while freeze is 1 and the line is low (R169). An
area's effective protection is the lock, or else the overlay while it is valid, or else the NV value (R163). The model's own
choice in it is entry 2 of the log. -/
def Obligations.StartupEndAndWpl : Prop :=
  (∀ s : State, s.power = .starting →
     ∃ t, exec .startupEnd s = .next t ∧
       t = { s.wait s.clock.startupLeft with power := .running, lanes := t.lanes, site := t.site } ∧
       t.site = { s.site with port := { s.site.port with state := .resync },
                              flags := s.site.flags ||| SiteFlag.started.bit } ∧
       ∀ l, t.lane l = { s.lane l with port := { (s.lane l).port with
         state := if s.laneEnable.getLsbD l.val then .resync else .disabled } }) ∧
  (∀ (s : State) (high : Bool),
     exec (.wplChange high) s = .next { s with protection := { s.protection with wpl := high } } ∧
     (s.protection.frozen = true ↔ s.protection.freeze = true ∧ s.protection.wpl = false) ∧
     ∀ x : AreaProtection,
       (x.lock = true → x.effective = true) ∧
       (x.lock = false → x.overlayValid = true → x.effective = x.overlay) ∧
       (x.lock = false → x.overlayValid = false → x.effective = x.nv))

/-! ## Lane jobs -/

/-- A SUBMIT of one of the three kinds with the length of its kind joins the end of the lane's job queue when it has room:
its job tag, its clamped budget, the time of arrival and the fields of its kind, most significant byte first; the response is
QUEUED with the jobs now queued and the budget used (R67 to R69). A SUBMIT that is not queued (R67): an unknown kind answers
BAD_KIND; a length other than the kind's answers BAD_LENGTH and is counted as a COMMAND error; a full queue answers
QUEUE_FULL with the jobs queued. The job queue stays as it is. -/
def Obligations.SubmitQueuesAJob : Prop :=
  (∀ (s : State) (l : LaneIx) (tag b1 b0 : Byte), s.Admits (.lane l) → (s.lane l).jobs.length < 8 →
     let n := beNat [b1, b0]
     let budget := if n = 0 then 0 else if n < 100 then 100 else n
     let queued := fun (payload : List Byte) (body : JobBody) =>
       let job : Job := { jobTag := tag, budget := budget, arrival := s.clock.time, lapsed := false, body := body }
       exec (.submit l payload) s = .next
         ((s.setLane l { s.lane l with jobs := (s.lane l).jobs ++ [job] }).heard (.lane l) .queued
           ([numByte ((s.lane l).jobs.length + 1)] ++ beBytes 2 budget))
     (∀ tagId g nt : List Byte, tagId.length = 8 → g.length = 2 → nt.length = 8 →
       queued ([0x01, tag, b1, b0] ++ tagId ++ g ++ nt)
         (.answer { tagId := BitVec.ofNat 64 (beNat tagId), generation := BitVec.ofNat 16 (beNat g),
                    nt := BitVec.ofNat 64 (beNat nt) })) ∧
     (∀ (handle : Byte) (mac : List Byte), mac.length = 8 →
       queued ([0x02, tag, b1, b0, handle] ++ mac) (.verify { handle := handle, mac := BitVec.ofNat 64 (beNat mac) })) ∧
     (∀ (handle slot : Byte) (toll : List Byte), toll.length = 16 →
       queued ([0x03, tag, b1, b0, handle, slot] ++ toll)
         (.seal { handle := handle, receiptSlot := slot, toll := BitVec.ofNat 128 (beNat toll) }))) ∧
  (∀ (s : State) (l : LaneIx) (kind : Byte) (rest : List Byte), s.Admits (.lane l) → rest.length < 64 →
     let right := (kind = 0x01 ∧ rest.length = 21) ∨ (kind = 0x02 ∧ rest.length = 12) ∨ (kind = 0x03 ∧ rest.length = 21)
     (kind = 0 ∨ 4 ≤ kind.toNat → exec (.submit l (kind :: rest)) s = .next (s.heard (.lane l) .badKind [])) ∧
     (1 ≤ kind.toNat → kind.toNat ≤ 3 → ¬right →
       exec (.submit l (kind :: rest)) s = .next ((s.countError (.lane l) .command).heard (.lane l) .badLength [])) ∧
     (right → 8 ≤ (s.lane l).jobs.length →
       exec (.submit l (kind :: rest)) s = .next (s.heard (.lane l) .queueFull [numByte (s.lane l).jobs.length])))

/-- FETCH takes the oldest result of the lane and answers its record, or answers NO_RESULT (R84). A result record is its job
tag, its kind, its code, and the fields that R82 gives an accepted ANSWER or SEAL. -/
def Obligations.FetchTakesTheOldestResult : Prop :=
  (∀ (s : State) (l : LaneIx) (r : Result) (rest : List Result), s.Admits (.lane l) → (s.lane l).results = r :: rest →
    exec (.fetch l []) s = .next ((s.setLane l { s.lane l with results := rest }).heard (.lane l) .ok r.bytes)) ∧
  (∀ (s : State) (l : LaneIx), s.Admits (.lane l) → (s.lane l).results = [] →
    exec (.fetch l []) s = .next (s.heard (.lane l) .noResult [])) ∧
  (∀ (tag : Byte) (kind : JobKind) (code : Code),
    (Result.mk tag kind code .none).bytes = [tag, kind.byte, code.byte] ∧
    (∀ handle nr proof, (Result.mk tag kind code (.answer handle nr proof)).bytes =
      [tag, kind.byte, code.byte, handle] ++ beBytes 8 nr.toNat ++ beBytes 8 proof.toNat) ∧
    (∀ number receipt, (Result.mk tag kind code (.seal number receipt)).bytes =
      [tag, kind.byte, code.byte] ++ beBytes 4 number ++ beBytes 8 receipt.toNat))

/-- The lapse of a job with a deadline comes when its budget has run out (R71). It marks the job, which ends at its dispatch;
the head job of a lane in counter wait ends EXPIRED at once, and the lane leaves the counter wait (R78). The model's own choice
in it is entry 2 of the log. -/
def Obligations.DeadlinesLapse : Prop :=
  ∀ (s : State) (l : LaneIx) (before after : List Job) (j : Job) (place : Fin 8),
    s.power = .running → (s.lane l).jobs = before ++ j :: after → place.val = before.length → 0 < j.budget → j.lapsed = false →
    let due := s.wait (j.budget + 1 - elapsed j.arrival s.clock.time)
    ((s.lane l).counterWait = false ∨ before ≠ [] →
      exec (.jobLapse l place) s = .next
        (due.setLane l { s.lane l with jobs := before ++ { j with lapsed := true } :: after })) ∧
    ((s.lane l).counterWait = true → before = [] →
      exec (.jobLapse l place) s = .next
        (due.setLane l { s.lane l with
          jobs := after, counterWait := false,
          results := (s.lane l).results ++
            [({ jobTag := j.jobTag, kind := j.body.kind, code := .expired, extra := .none } : Result)] }))

/-! ## Dispatch -/

/-- The dispatch arbiter (R74): the grant goes to an eligible requester with none eligible before it in the cyclic order LP0,
LP1, LP2, LP3, SP that begins after the requester last granted, and to none when none is eligible. A lane is eligible with a
job, room for a result and no counter wait (R72); the site port while a LOAD is in PREPARING and not yet
granted (R73). -/
def Obligations.GrantsGoRoundInOrder : Prop :=
  (∀ (s : State) (p : Port),
    let place := fun q : Port => match q with | .lane l => l.val | .site => 4
    let turn := fun q : Port => (place q + 4 - place s.cipher.lastGranted) % 5
    s.nextGrant = some p ↔ s.eligible p = true ∧ ∀ q, s.eligible q = true → turn p ≤ turn q) ∧
  (∀ s : State, s.nextGrant = none ↔ ∀ q, s.eligible q = false) ∧
  (∀ (s : State) (l : LaneIx), s.eligible (.lane l) = true ↔
    (s.lane l).jobs ≠ [] ∧ (s.lane l).results.length < 8 ∧ (s.lane l).counterWait = false) ∧
  (∀ s : State, s.cipher.work = none → (s.eligible .site = true ↔ ∃ load, s.engine.active.map (·.op) = some (.load load)))

/-- The checks that end a job at its dispatch (R76, R77, R97, R102, R109, R110), in their order: the lapsed mark; for a
VERIFY and a SEAL a handle that is not current, then the state of the session; for a SEAL then the receipt slot, then the
state of the counter. The job leaves the queue with the code as its result, the cipher engine stays empty, and nothing else
changes. -/
def Obligations.JobsEndAtDispatch : Prop :=
  ∀ (s : State) (l : LaneIx) (j : Job) (rest : List Job),
    s.power = .running → s.cipher.work = none → s.nextGrant = some (.lane l) → (s.lane l).jobs = j :: rest →
    let ended := fun code : Code => exec .grant s = .next
      ({ s with cipher := { s.cipher with lastGranted := .lane l } }.setLane l { s.lane l with
        jobs := rest,
        results := (s.lane l).results ++
          [({ jobTag := j.jobTag, kind := j.body.kind, code := code, extra := .none } : Result)] })
    (j.lapsed = true → ended .expired) ∧
    (j.lapsed = false → ∀ v, j.body = .verify v →
      ((s.lane l).current v.handle = none → ended .sessionUnknown) ∧
      (∀ x, (s.lane l).current v.handle = some x → x.verified = true → ended .sessionState)) ∧
    (j.lapsed = false → ∀ k, j.body = .seal k →
      ((s.lane l).current k.handle = none → ended .sessionUnknown) ∧
      (∀ x, (s.lane l).current k.handle = some x → x.verified = false → ended .sessionState) ∧
      (∀ x, (s.lane l).current k.handle = some x → x.verified = true →
        let serves := fun i : SlotIx => k.receiptSlot.toNat = i.val ∧ s.inRing i = false ∧ (s.slot i).state = .loaded ∧
          ∃ f, (s.slot i).fields = some f ∧ f.usage = .receipt ∧ f.laneMask.getLsbD l.val = true
        ((∀ i, ¬serves i) → ended .badKeySlot) ∧
        (∀ i, serves i → s.counter.state = .unset → ended .counterUnset) ∧
        (∀ i, serves i → s.counter.state = .exhausted → ended .counterExhausted)))

/-- Resolution (R50, R51): the checks in their order, of the ring state, the window, the slot that stands for the generation,
and its lane mask. -/
def Obligations.ResolutionRows : Prop :=
  ∀ (s : State) (l : LaneIx) (g : Gen),
    let p := s.ring.position g
    let i := s.ring.slotAt s.store.geometry p
    (s.ring.live = false → s.resolve l g = .error .noGeneration) ∧
    (s.ring.live = true →
      (p < -(s.ring.back : Int) → s.resolve l g = .error .tooOld) ∧
      (-(s.ring.back : Int) ≤ p → (s.ring.ahead : Int) < p → s.resolve l g = .error .tooNew) ∧
      (-(s.ring.back : Int) ≤ p → p ≤ (s.ring.ahead : Int) →
        ((s.slot i).state = .retired → s.resolve l g = .error .genRetired) ∧
        ((s.slot i).state ≠ .retired → ¬((s.slot i).state = .loaded ∧ (s.slot i).generation = some g) →
          s.resolve l g = .error .genMissing) ∧
        ((s.slot i).state = .loaded → (s.slot i).generation = some g →
          ((s.slot i).allows l = false → s.resolve l g = .error .laneDenied) ∧
          ((s.slot i).allows l = true → s.resolve l g = .ok i))))

/-- The grant of an ANSWER takes the job from the queue into the cipher engine (R49, R52, R55, R57, R79, R92). One that
resolution ends occupies it for 0.4 µs; a hit for one block operation more, with the entry moved to the most-recent end of the
cache; a miss for two. The proof is the first 8 bytes of the encryption of the tag's nonce and the reader's under the tag key;
on a miss the tag key is the encryption of the derivation block of tag ID and generation under the slot's key. The reader nonce
is a free value. The grant of a VERIFY of an ANSWERED session takes the job into the cipher engine with copies of the session's
key and nonces, for 1.2 µs; the session stays (R79, R97). The model's own choices in it are entries 4, 12 and 13 of the log. -/
def Obligations.AnswersAndVerifiesEnter : Prop :=
  (∀ (s : State) (l : LaneIx) (j : Job) (rest : List Job) (a : AnswerJob),
     s.power = .running → s.cipher.work = none → s.nextGrant = some (.lane l) → (s.lane l).jobs = j :: rest →
     j.lapsed = false → j.body = .answer a →
     let g : Gen := a.generation.setWidth 12
     let nr := Config.readerNonce s.draws
     let enters := fun (t : State) (left : Nat) (task : Task) => exec .grant s = .next
       ({ t with cipher := { work := some { requester := .lane l, detached := false, left := left, task := task },
                             lastGranted := .lane l } }.setLane l { s.lane l with jobs := rest })
     (∀ code, s.resolve l g = .error code → enters s 4 (.answerEnded j.jobTag a code)) ∧
     (∀ i, s.resolve l g = .ok i →
       (∀ before e after, s.cache = before ++ e :: after → e.tagId = a.tagId → e.generation = g →
         (∀ x ∈ before ++ after, ¬(x.tagId = a.tagId ∧ x.generation = g)) →
         enters { s with cache := before ++ after ++ [e], draws := s.draws + 1 } 12
           (.answer j.jobTag a i (s.slot i).key true e.kt nr ((E e.kt (a.nt ++ nr)).extractLsb' 64 64))) ∧
       ((∀ x ∈ s.cache, ¬(x.tagId = a.tagId ∧ x.generation = g)) →
         let kt := E (s.slot i).key (a.tagId ++ (g.setWidth 16 : BitVec 16) ++ (0x544B00000001 : BitVec 48))
         enters { s with draws := s.draws + 1 } 20
           (.answer j.jobTag a i (s.slot i).key false kt nr ((E kt (a.nt ++ nr)).extractLsb' 64 64))))) ∧
  (∀ (s : State) (l : LaneIx) (j : Job) (rest : List Job) (v : VerifyJob) (x : Session),
     s.power = .running → s.cipher.work = none → s.nextGrant = some (.lane l) → (s.lane l).jobs = j :: rest →
     j.lapsed = false → j.body = .verify v → (s.lane l).current v.handle = some x → x.verified = false →
     exec .grant s = .next
       ({ s with cipher := { work := some { requester := .lane l, detached := false, left := 12,
                                            task := .verify j.jobTag v x.kt x.nt x.nr },
                             lastGranted := .lane l } }.setLane l { s.lane l with jobs := rest }))

/-- The grant of a SEAL whose checks pass while a number is free (R79, R102, R111, R116, R117): it takes the number `next`,
which rises by one; its session ends, the serial staying; the job enters the cipher engine for 2.0 µs with the session's tag
ID and generation, the number and a copy of the receipt key. Then, when the last number is gone, the counter is EXHAUSTED and
COUNTER is set; and otherwise, when at most 1024 numbers are left, the limit is not the highest and no reservation is in
progress, a reservation is requested. A SEAL whose checks pass but for which no number is free, or while a SET_COUNTER is in
progress, stays at the head of its queue: the lane enters counter wait and COUNTER is set; without a reservation or a
SET_COUNTER in progress a reservation is requested (R78, R110, R120). -/
def Obligations.SealsTakeTheNextNumber : Prop :=
  (∀ (s : State) (l : LaneIx) (j : Job) (rest : List Job) (k : SealJob) (x : Session) (i : SlotIx),
     s.power = .running → s.cipher.work = none → s.nextGrant = some (.lane l) → (s.lane l).jobs = j :: rest →
     j.lapsed = false → j.body = .seal k → (s.lane l).current k.handle = some x → x.verified = true →
     s.receiptSlot l k.receiptSlot = some i → s.counter.state = .running → s.counter.setting = false →
     s.counter.next < s.counter.limit → s.counter.limit ≤ 4294967295 →
     let c : Counter := { s.counter with next := s.counter.next + 1 }
     let work : Cipher := { lastGranted := .lane l, work := some {
       requester := .lane l, detached := false, left := 20,
       task := .seal j.jobTag k x.tagId x.generation s.counter.next (s.slot i).key } }
     let taken : State := ({ s with cipher := work }.setLane l { s.lane l with
       jobs := rest,
       sessions := (s.lane l).sessions.set (handleEntry k.handle)
         { (s.lane l).sessions[handleEntry k.handle] with session := none } })
     let low := s.counter.limit - (s.counter.next + 1) ≤ 1024 ∧ s.counter.limit < 4294967295 ∧ s.counter.reserving = false
     (s.counter.next + 1 = 4294967295 → exec .grant s = .next
       { taken with counter := { c with state := .exhausted },
                    site := { s.site with flags := s.site.flags ||| SiteFlag.counter.bit } }) ∧
     (s.counter.next + 1 < 4294967295 → ¬low → exec .grant s = .next { taken with counter := c }) ∧
     (s.counter.next + 1 < 4294967295 → low → exec .grant s = .next
       { taken with counter := { c with reserving := true },
                    engine := { s.engine with
                      counterRequest := some { limit := min (s.counter.limit + 4096) 4294967295, retry := false } } })) ∧
  (∀ (s : State) (l : LaneIx) (j : Job) (rest : List Job) (k : SealJob) (x : Session) (i : SlotIx),
     s.power = .running → s.cipher.work = none → s.nextGrant = some (.lane l) → (s.lane l).jobs = j :: rest →
     j.lapsed = false → j.body = .seal k → (s.lane l).current k.handle = some x → x.verified = true →
     s.receiptSlot l k.receiptSlot = some i → s.counter.state = .running →
     let counterSet : State :=
       { s with cipher := { s.cipher with lastGranted := .lane l },
                site := { s.site with flags := s.site.flags ||| SiteFlag.counter.bit } }
     let waiting : State := counterSet.setLane l { s.lane l with counterWait := true }
     (s.counter.setting = true ∨ (s.counter.limit ≤ s.counter.next ∧ s.counter.reserving = true) →
       exec .grant s = .next waiting) ∧
     (s.counter.setting = false → s.counter.limit ≤ s.counter.next → s.counter.reserving = false →
       exec .grant s = .next
         { waiting with counter := { s.counter with reserving := true },
                        engine := { s.engine with
                          counterRequest := some { limit := min (s.counter.limit + 4096) 4294967295, retry := false } } }))

/-- The grant of a LOAD in PREPARING begins its unwrap: two block operations under a copy of the transport key, or one for a
plaintext load (R79, R134). When the transport slot no longer serves, the load ends TRANSPORT_GONE, the write engine is IDLE,
and NV_FAILED is set (R135, R158). The completion of an unwrap (R134 to R136, R8): the key is the wrapped block XOR the
encryption of the IV under the transport key, or the wrapped block itself; when the first 3 bytes of the encryption of the zero
block under it are the KCV, the slot enters PROGRAMMING with the load's fields and the key, PROGRAM_BEGUN is written, and the
program of 3 ms begins; otherwise the load ends KCV_MISMATCH, the slot stays, and the write engine is IDLE. The model's own
choices in it are entries 2, 13 and 14 of the log. -/
def Obligations.UnwrapsOfLoads : Prop :=
  (∀ (s : State) (load : Load) (left : Nat),
     s.power = .running → s.cipher.work = none → s.nextGrant = some .site →
     s.engine.active = some { op := .load load, remaining := left } →
     let begins := fun (time : Nat) (kx : Option Block) => exec .grant s = .next
       { s with cipher := { work := some { requester := .site, detached := false, left := time, task := .unwrap load kx },
                            lastGranted := .site } }
     (load.transport = none → begins 12 none) ∧
     (∀ i, load.transport = some i →
       ((s.slot i).serves .transport = true → begins 20 (some (s.slot i).key)) ∧
       ((s.slot i).serves .transport = false → exec .grant s = .next
         { s with cipher := { s.cipher with lastGranted := .site },
                  engine := { s.engine with active := none,
                                            lastOutcome := some { kind := .program, target := .slot load.slot,
                                                                  code := .transportGone } },
                  site := { s.site with flags := s.site.flags ||| SiteFlag.nvFailed.bit } }))) ∧
  (∀ (s : State) (w : Work) (load : Load) (kx : Option Block),
     s.cipher.work = some w → w.task = .unwrap load kx →
     let due := s.elapse w.left
     let freed := { due with cipher := { due.cipher with work := none } }
     let key := match kx with | some k => load.wrapped ^^^ E k load.iv | none => load.wrapped
     let i := load.slot
     let programming : Slot :=
       { state := .programming, key := key, markPending := false,
         fields := some { generation := load.generation, usage := load.usage, laneMask := load.laneMask,
                          checkValue := load.kcv } }
     let begun : NvSlot := { marker := .programBegun, fields := none, key := 0, checkGood := true }
     ((E key 0).extractLsb' 104 24 = load.kcv → exec .unwrapCompletion s = .next
       { freed with
         store := { s.store with slots := s.store.slots.set i programming },
         array := { s.array with slots := s.array.slots.set i begun },
         engine := { due.engine with active := some { op := .slotOp (.program i), remaining := 3000 } } }) ∧
     ((E key 0).extractLsb' 104 24 ≠ load.kcv → exec .unwrapCompletion s = .next
       { freed with
         engine := { due.engine with active := none,
                                     lastOutcome := some { kind := .program, target := .slot i, code := .kcvMismatch } },
         site := { s.site with flags := s.site.flags ||| SiteFlag.nvFailed.bit } }))

/-! ## The completions of the cipher engine, and sessions -/

/-- The completion of an ANSWER whose resolution passed, at the end of its occupancy (R58, R80, R86, R93, R94). The code is
GEN_RETIRED when the slot no longer holds the generation, otherwise TOO_NEW or TOO_OLD by its position, otherwise OK. A derived
key is inserted in the cache when the ring is LIVE and the slot still holds the generation inside the window: an entry of the
same tag and generation goes, of 32 others the least recently used goes, and the new entry joins the most-recent end (R58,
R59). A detached job leaves no session and no result. The model's own choices in it are entries 2 and 25 of the log. -/
def Obligations.AnswersComplete : Prop :=
  ∀ (s : State) (l : LaneIx) (detached hit : Bool) (left : Nat) (tag : Byte) (a : AnswerJob) (i : SlotIx) (kg kt : Block)
    (nr proof : BitVec 64),
    s.cipher.work = some { requester := .lane l, detached := detached, left := left,
                           task := .answer tag a i kg hit kt nr proof } →
    let due := s.elapse left
    let g : Gen := a.generation.setWidth 12
    let holds := (s.slot i).state = .loaded ∧ (s.slot i).generation = some g
    let p := s.ring.position g
    let entry : CacheEntry := { tagId := a.tagId, generation := g, kt := kt }
    let others := s.cache.filter fun e => !(e.tagId == a.tagId && e.generation == g)
    let room := if 32 ≤ others.length then others.drop 1 else others
    let keyed := { due with cipher := { due.cipher with work := none },
                            cache := if hit = false ∧ s.ring.live = true ∧ holds ∧ -(s.ring.back : Int) ≤ s.slotPosition i ∧
                                       s.slotPosition i ≤ (s.ring.ahead : Int) then room ++ [entry] else s.cache }
    let result := fun (code : Code) (extra : ResultExtra) (x : Lane) => { x with
      results := x.results ++ [({ jobTag := tag, kind := .answer, code := code, extra := extra } : Result)] }
    let session : Session := { verified := false, tagId := a.tagId, generation := g, kt := kt, nt := a.nt, nr := nr,
                               opened := due.clock.time }
    let inside := -(s.ring.back : Int) ≤ p ∧ p ≤ (s.ring.ahead : Int)
    (detached = true → exec .answerCompletion s = .next keyed) ∧
    (detached = false →
      (¬holds → exec .answerCompletion s = .next (keyed.setLane l (result .genRetired .none (s.lane l)))) ∧
      (holds → (s.ring.ahead : Int) < p →
        exec .answerCompletion s = .next (keyed.setLane l (result .tooNew .none (s.lane l)))) ∧
      (holds → p ≤ (s.ring.ahead : Int) → p < -(s.ring.back : Int) →
        exec .answerCompletion s = .next (keyed.setLane l (result .tooOld .none (s.lane l)))) ∧
      (holds → inside → ∀ e : EntryIx, ((s.lane l).sessions[e]).session = none →
        (∀ e' < e, ((s.lane l).sessions[e']).session ≠ none) →
        let serial := ((s.lane l).sessions[e]).serial + 1
        exec .answerCompletion s = .next (keyed.setLane l
          (result .ok (.answer (BitVec.ofNat 8 (e.val * 64 + serial.toNat)) nr proof)
            { s.lane l with sessions := (s.lane l).sessions.set e { serial := serial, session := some session } }))) ∧
      (holds → inside → ∀ e : EntryIx, (∀ e' : EntryIx, ((s.lane l).sessions[e']).session ≠ none) →
        (∀ e' : EntryIx, e' < e → ((s.lane l).sessions[e']).age due.clock.time < ((s.lane l).sessions[e]).age due.clock.time) →
        (∀ e' : EntryIx, ((s.lane l).sessions[e']).age due.clock.time ≤ ((s.lane l).sessions[e]).age due.clock.time) →
        let serial := ((s.lane l).sessions[e]).serial + 1
        exec .answerCompletion s = .next (keyed.setLane l
          (result .ok (.answer (BitVec.ofNat 8 (e.val * 64 + serial.toNat)) nr proof)
            { (s.lane l).flag .sessionLost with
              sessions := (s.lane l).sessions.set e { serial := serial, session := some session } }))))

/-- The completion of a VERIFY (R80, R86, R98, R99): while the handle is still current the expected reply is compared with the
carried one, and the session becomes VERIFIED, PASS, or ends, FAIL; otherwise SESSION_UNKNOWN. A detached job changes nothing
and leaves no result. An ANSWER that resolution ended delivers its code in the same way (R52). The completion of a SEAL
delivers OK with its receipt number and the receipt tag, the first 8 bytes of the second of two chained encryptions of the
receipt record under the receipt key; for a detached job the number is used up and no result appears (R80, R86, R112, R113).
The model's own choices in it are entries 2 and 12 of the log. -/
def Obligations.VerifiesAndSealsComplete : Prop :=
  ((∀ (s : State) (l : LaneIx) (detached : Bool) (left : Nat) (tag : Byte) (v : VerifyJob) (kt : Block) (nt nr : BitVec 64),
     s.cipher.work = some { requester := .lane l, detached := detached, left := left, task := .verify tag v kt nt nr } →
     let due := s.elapse left
     let ended := { due with cipher := { due.cipher with work := none } }
     let e := handleEntry v.handle
     let answers := fun (code : Code) (x : Lane) => exec .verifyCompletion s = .next (ended.setLane l { x with
       results := x.results ++ [({ jobTag := tag, kind := .verify, code := code, extra := .none } : Result)] })
     (detached = true → exec .verifyCompletion s = .next ended) ∧
     (detached = false →
       ((s.lane l).current v.handle = none → answers .sessionUnknown (s.lane l)) ∧
       ∀ x, (s.lane l).current v.handle = some x →
         ((E kt (nr ++ nt)).extractLsb' 64 64 = v.mac →
           answers .pass ((s.lane l).setSession e (some { x with verified := true }))) ∧
         ((E kt (nr ++ nt)).extractLsb' 64 64 ≠ v.mac → answers .fail ((s.lane l).setSession e none)))) ∧
   (∀ (s : State) (l : LaneIx) (detached : Bool) (left : Nat) (tag : Byte) (a : AnswerJob) (code : Code),
     s.cipher.work = some { requester := .lane l, detached := detached, left := left, task := .answerEnded tag a code } →
     let due := s.elapse left
     let ended := { due with cipher := { due.cipher with work := none } }
     (detached = true → exec .answerCompletion s = .next ended) ∧
     (detached = false → exec .answerCompletion s = .next (ended.setLane l { s.lane l with
       results := (s.lane l).results ++ [({ jobTag := tag, kind := .answer, code := code, extra := .none } : Result)] })))) ∧
  (∀ (s : State) (l : LaneIx) (detached : Bool) (left number : Nat) (tag : Byte) (k : SealJob) (tagId : BitVec 64) (g : Gen)
     (kr : Block),
     s.cipher.work = some { requester := .lane l, detached := detached, left := left,
                            task := .seal tag k tagId g number kr } →
     let due := s.elapse left
     let ended := { due with cipher := { due.cipher with work := none } }
     let head : Block := tagId ++ (g.setWidth 16 : BitVec 16) ++ (numByte l.val : Byte) ++ (0 : Byte) ++
       (BitVec.ofNat 32 number : BitVec 32)
     let receipt := (E kr (E kr head ^^^ k.toll)).extractLsb' 64 64
     (detached = true → exec .sealCompletion s = .next ended) ∧
     (detached = false → exec .sealCompletion s = .next (ended.setLane l { s.lane l with
       results := (s.lane l).results ++ [({ jobTag := tag, kind := .seal, code := .ok,
                                            extra := .seal number receipt } : Result)] })))

/-- An open session ends when more than L ms have passed since its opening, and SESSION_LOST is set on its lane; its serial
stays (R90, R100, R107). SET_SESSION_LIFE puts L at its byte, clamped to 5 to 250 ms, at once, and ends every session whose
elapsed time already exceeds it, with SESSION_LOST on the lanes that lost one (R101). The model's own choice in it is entry 2
of the log. -/
def Obligations.SessionLifetime : Prop :=
  (∀ (s : State) (l : LaneIx) (e : EntryIx) (x : Session),
     s.power = .running → ((s.lane l).sessions[e]).session = some x →
     let due := s.wait (s.sessionLife * 1000 + 1 - elapsed x.opened s.clock.time)
     exec (.sessionExpiry l e) s = .next (due.setLane l
       (Lane.flag .sessionLost { s.lane l with
         sessions := (s.lane l).sessions.set e { (s.lane l).sessions[e] with session := none } }))) ∧
  (∀ (s : State) (b : Byte), s.Admits .site →
     let life := if b.toNat < 5 then 5 else if 250 < b.toNat then 250 else b.toNat
     ∃ t, exec (.setSessionLife [b]) s = .next t ∧
       t = { (s.heard .site .ok [numByte life]) with sessionLife := life, lanes := t.lanes } ∧
       ∀ l,
         let past := fun e : EntryIx => ∃ x, ((s.lane l).sessions[e]).session = some x ∧
           life * 1000 < elapsed x.opened s.clock.time
         (∀ e : EntryIx, past e →
           (t.lane l).sessions[e] = { serial := ((s.lane l).sessions[e]).serial, session := none }) ∧
         (∀ e : EntryIx, ¬past e → (t.lane l).sessions[e] = (s.lane l).sessions[e]) ∧
         ((∃ e, past e) → t.lane l = { (s.lane l).flag .sessionLost with sessions := (t.lane l).sessions }) ∧
         ((∀ e, ¬past e) → t.lane l = s.lane l))

/-! ## Loads, erases and retirement -/

/-- A LOAD that passes its checks (R127 to R133): the permit clears, the load is PREPARING, and the response is ACCEPTED with
the slot and, for a RING target, the position. A RING target is the slot that stands for the generation at a position of the
ring range, with usage TAG_ROOT; a FIXED target is a slot of a fixed area with usage RECEIPT or TRANSPORT. The model's own
choice in it is entry 14 of the log. -/
def Obligations.LoadsAreAccepted : Prop :=
  ∀ (s : State) (payload : List Byte) (a : LoadArgs) (i : SlotIx) (u : Usage) (transport : Option SlotIx),
    s.Admits .site → argLoad payload = some a → s.engine.permit = true → s.idle = true →
    (∀ x, s.engine.held = some x → x.op.isProgram = false ∧ x.op.targets i = false) →
    s.protectedSlot i = false → (s.slot i).state = .blank → a.laneMask.toNat < 16 →
    (transport = none → a.transport = 0xFF ∧ u = .transport ∧ ∀ j, (s.slot j).serves .transport = false) →
    (∀ j, transport = some j → a.transport.toNat = j.val ∧ (s.slot j).serves .transport = true) →
    let load : Load := { slot := i, generation := none, usage := u, laneMask := a.laneMask.setWidth 4, transport := transport,
                         wrapped := a.wrapped, iv := a.iv, kcv := a.kcv }
    let accepted := fun (x : Load) (values : List Byte) => exec (.load payload) s = .next
      ({ s with engine := { s.engine with permit := false, active := some { op := .load x, remaining := 0 } } }.heard
        .site .accepted values)
    let common := a.targetHigh + a.targetLow + a.laneMask + a.kcvBytes.foldl (· + ·) 0 + numByte s.store.geometry.ring +
      numByte s.store.geometry.head
    (a.targetKind = 0x01 → s.ring.live = true → a.targetHigh.toNat < 16 → u = .tagRoot → transport ≠ none →
      let g : Gen := a.target.setWidth 12
      let p := s.ring.position g
      p ≤ (s.store.geometry.ring : Int) - 1 - (s.ring.back : Int) → -(s.ring.back : Int) ≤ p →
      i = s.ring.slotAt s.store.geometry p → a.manifest = common + 0x01 →
      accepted ({ load with generation := some g } : Load) ([numByte i.val] ++ positionBytes p)) ∧
    (a.targetKind = 0x02 → a.targetHigh = 0 → a.targetLow.toNat = i.val → s.inRing i = false →
      (a.usage = 0x02 ∧ u = .receipt) ∨ (a.usage = 0x03 ∧ u = .transport) → a.manifest = common + a.usage →
      accepted load [numByte i.val])

/-- A LOAD that its checks refuse changes nothing but the transaction, and answers the code of the first check that fails (R127
to R132): the permit; an IDLE engine that holds no program, and no erase of the slot that the target names; the target, which
names the slot of a generation in the ring range of a LIVE ring or a slot of a fixed area; protection; a BLANK slot; usage and
lane mask; the transport source; the manifest sum. The model's own choice in it is entry 14 of the log. -/
def Obligations.LoadsAreRefused : Prop :=
  ∀ (s : State) (kind hi lo usage mask transport m k1 k2 k3 : Byte) (wrapped iv : List Byte), s.Admits .site →
    wrapped.length = 16 → iv.length = 16 →
    let refused := fun code : Code =>
      exec (.load ([kind, hi, lo, usage, mask, transport] ++ wrapped ++ iv ++ [k1, k2, k3, m])) s =
        .next (s.heard .site code [])
    let first := s.store.geometry.head
    let size := s.store.geometry.ring
    let p := s.ring.position ((hi ++ lo : BitVec 16).setWidth 12)
    let inRange := -(s.ring.back : Int) ≤ p ∧ p ≤ (size : Int) - 1 - (s.ring.back : Int)
    let names := fun i : SlotIx =>
      (kind = 0x01 ∧ s.ring.live = true ∧ hi.toNat < 16 ∧ inRange ∧ (i.val : Int) = first + ((s.ring.h : Int) + p) % size) ∨
      (kind = 0x02 ∧ hi = 0 ∧ lo.toNat = i.val ∧ (i.val < first ∨ first + size ≤ i.val))
    let locked := fun i : SlotIx =>
      (i.val < first ∧ s.protection.head.lock = true) ∨
      (first ≤ i.val ∧ first + size ≤ i.val ∧ s.protection.tail.lock = true)
    let guarded := fun i : SlotIx =>
      (i.val < first ∧ s.protection.head.effective = true) ∨
      (first ≤ i.val ∧ first + size ≤ i.val ∧ s.protection.tail.effective = true)
    let serves := fun j : SlotIx =>
      (s.slot j).state = .loaded ∧ ∃ f, (s.slot j).fields = some f ∧ f.usage = .transport
    let plain := transport = 0xFF ∧ kind = 0x02 ∧ usage = 0x03 ∧ ∀ j, ¬serves j
    let sum := hi + lo + (if kind = 0x01 then 0x01 else usage) + mask + k1 + k2 + k3 + BitVec.ofNat 8 size +
      BitVec.ofNat 8 first
    (s.engine.permit = false → refused .noPermit) ∧
    (s.engine.permit = true → s.idle = false → refused .busy) ∧
    (s.engine.permit = true → s.idle = true →
      (∀ left who i, s.engine.held = some { op := .program i, remaining := left, by_ := who } → refused .suspended) ∧
      (∀ x i, s.engine.held = some x → x.op.isProgram = false → names i → x.op.targets i = true → refused .suspended) ∧
      ((∀ x, s.engine.held = some x → x.op.isProgram = false) →
        (kind ≠ 0x01 → kind ≠ 0x02 → refused .badSlot) ∧
        (kind = 0x01 → s.ring.live = false → refused .ringUnset) ∧
        (kind = 0x01 → s.ring.live = true → 16 ≤ hi.toNat ∨ ¬inRange → refused .badPosition) ∧
        (kind = 0x02 → hi ≠ 0 ∨ 64 ≤ lo.toNat ∨ (first ≤ lo.toNat ∧ lo.toNat < first + size) → refused .badSlot)) ∧
      (∀ i, names i → (∀ x, s.engine.held = some x → x.op.isProgram = false ∧ x.op.targets i = false) →
        (locked i → refused .locked) ∧
        (¬locked i → guarded i → refused .areaProtected) ∧
        (¬locked i → ¬guarded i →
          ((s.slot i).state ≠ .blank → refused .notBlank) ∧
          ((s.slot i).state = .blank →
            (16 ≤ mask.toNat ∨ (kind = 0x02 ∧ usage ≠ 0x02 ∧ usage ≠ 0x03) → refused .badUsage) ∧
            (mask.toNat < 16 → (kind = 0x02 → usage = 0x02 ∨ usage = 0x03) →
              ((∀ j : SlotIx, transport.toNat = j.val → ¬serves j) → ¬plain → refused .badUsage) ∧
              ((∃ j : SlotIx, transport.toNat = j.val ∧ serves j) ∨ plain → m ≠ sum → refused .manifestMismatch))))))

/-- An accepted ERASE_SLOT or ERASE_BANK (R11, R139, R141): the permit clears and the erase is active for its duration. Each
target that is not BLANK enters ERASING with its fields and its key gone, and ERASE_BEGUN in its record; the cache entries, the
others keeping their order, and the sessions of the ring generations among them go (R61), with SESSION_LOST where a session
did. The response is the number and how many slots entered ERASING. Other slots, other records and the rest of the part stay.
The model's own choice in it is entry 14 of the log. -/
def Obligations.ErasesBegin : Prop :=
  ∀ (s : State) (b : Byte) (op : SlotOp), s.Admits .site →
    (∃ i : SlotIx, b.toNat = i.val ∧ op = .eraseSlot i) ∨ (∃ k : Fin 8, b.toNat = k.val ∧ op = .eraseBank k) →
    s.engine.permit = true → s.idle = true → s.engine.held = none →
    (∀ i, op.targets i = true → s.protectedSlot i = false ∧ s.inService i = false) →
    let erased := fun i => op.targets i = true ∧ (s.slot i).state ≠ .blank
    let gone := fun g => ∃ i, erased i ∧ s.inRing i = true ∧ (s.slot i).generation = some g
    ∃ t : State,
      exec (match op with | .eraseBank _ => .eraseBank [b] | _ => .eraseSlot [b]) s = .next t ∧
      t = { (s.heard .site .accepted [b, numByte (allSlots.filter fun i => decide (erased i)).length]) with
            store := t.store, array := t.array, lanes := t.lanes, cache := t.cache,
            engine := { s.engine with permit := false, retireRetry := t.engine.retireRetry, active := some {
              op := .slotOp op, remaining := match op with | .eraseBank _ => 55000 | _ => 18000 } } } ∧
      t.store.geometry = s.store.geometry ∧
      (∀ i, erased i → t.slot i = { state := .erasing, fields := none, key := 0, markPending := false } ∧
        t.nvSlot i = { s.nvSlot i with marker := .eraseBegun }) ∧
      (∀ i, ¬erased i → t.slot i = s.slot i ∧ t.nvSlot i = s.nvSlot i) ∧
      t.array = { s.array with slots := t.array.slots } ∧
      (∃ keep : CacheEntry → Bool, (∀ e, keep e = true ↔ ¬gone e.generation) ∧ t.cache = s.cache.filter keep) ∧
      ∀ l,
        let lost := fun e : EntryIx => ∃ x, ((s.lane l).sessions[e]).session = some x ∧ gone x.generation
        (∀ e, lost e → (t.lane l).sessions[e] = { serial := ((s.lane l).sessions[e]).serial, session := none }) ∧
        (∀ e, ¬lost e → (t.lane l).sessions[e] = (s.lane l).sessions[e]) ∧
        ((∃ e, lost e) → t.lane l = { (s.lane l).flag .sessionLost with sessions := (t.lane l).sessions }) ∧
        ((∀ e, ¬lost e) → t.lane l = s.lane l)

/-- An ERASE_SLOT or ERASE_BANK that is refused changes nothing but the transaction (R139, R140): without the permit, with an
index out of range, with the engine not IDLE or an operation held, with a target protected or in service, in this order. The
model's own choice in it is entry 14 of the log. -/
def Obligations.ErasesAreRefused : Prop :=
  ∀ (s : State) (b : Byte), s.Admits .site →
    let refused := fun (c : Instr) (code : Code) => exec c s = .next (s.heard .site code [])
    (s.engine.permit = false → refused (.eraseSlot [b]) .noPermit ∧ refused (.eraseBank [b]) .noPermit) ∧
    (s.engine.permit = true →
      (64 ≤ b.toNat → refused (.eraseSlot [b]) .badSlot) ∧ (8 ≤ b.toNat → refused (.eraseBank [b]) .badSlot) ∧
      ∀ (c : Instr) (op : SlotOp),
        (∃ i : SlotIx, b.toNat = i.val ∧ op = .eraseSlot i ∧ c = .eraseSlot [b]) ∨
        (∃ k : Fin 8, b.toNat = k.val ∧ op = .eraseBank k ∧ c = .eraseBank [b]) →
        (s.idle = false → refused c .busy) ∧
        (s.idle = true → s.engine.held ≠ none → refused c .suspended) ∧
        (s.idle = true → s.engine.held = none →
          (∀ i, op.targets i = true → s.lockedSlot i = true → refused c .locked) ∧
          ((∀ i, op.targets i = true → s.lockedSlot i = false) →
            (∀ i, op.targets i = true → s.protectedSlot i = true → refused c .areaProtected) ∧
            ((∀ i, op.targets i = true → s.protectedSlot i = false) →
              ∀ i, op.targets i = true → (s.slot i).state = .loaded → s.inRing i = false ∨ s.inWindow i = true →
                refused c .inService))))

/-- The completion of an erase, at the end of its time (R12, R142, R158): its ERASING targets become BLANK with erased records,
but for those the array reports as failed, which become DAMAGED. The outcome is ERASE_OK with the slot or the bank's first
slot, or ERASE_FAIL with the lowest that failed; and the engine goes on with what is outstanding. The model's own choice in it
is entry 2 of the log. -/
def Obligations.ErasesComplete : Prop :=
  ∀ (s : State) (op : SlotOp) (left : Nat) (failed : List SlotIx),
    s.engine.active = some { op := .slotOp op, remaining := left } → op.isProgram = false →
    let due := s.wait (s.engine.restLeft + left)
    let erasing := fun i => op.targets i = true ∧ (s.slot i).state = .erasing
    let lost := fun i => erasing i ∧ i ∈ failed
    ∃ t : State, exec (.eraseComplete failed) s = .next t.proceed ∧
      t = { due with store := t.store, array := t.array, site := t.site,
                     engine := { due.engine with active := none, lastOutcome := t.engine.lastOutcome } } ∧
      t.store.geometry = s.store.geometry ∧ t.array = { s.array with slots := t.array.slots } ∧
      (∀ i, lost i → t.slot i = { state := .damaged, fields := none, key := 0, markPending := false } ∧
        t.nvSlot i = s.nvSlot i) ∧
      (∀ i, erasing i → i ∉ failed → t.slot i = Slot.empty ∧ t.nvSlot i = NvSlot.empty) ∧
      (∀ i, ¬erasing i → t.slot i = s.slot i ∧ t.nvSlot i = s.nvSlot i) ∧
      ((∀ i, ¬lost i) → t.site = { s.site with flags := s.site.flags ||| SiteFlag.nvDone.bit } ∧
        (∀ i, op = .eraseSlot i →
          t.engine.lastOutcome = some { kind := .erase, target := .slot i, code := .eraseOk }) ∧
        (∀ (k : Fin 8) (i : SlotIx), op = .eraseBank k → i.val = 8 * k.val →
          t.engine.lastOutcome = some { kind := .erase, target := .slot i, code := .eraseOk })) ∧
      (∀ i, lost i → (∀ i' < i, ¬lost i') → t.site = { s.site with flags := s.site.flags ||| SiteFlag.nvFailed.bit } ∧
        t.engine.lastOutcome = some { kind := .erase, target := .slot i, code := .eraseFail })

/-- The completion of a program, at the end of its time (R7, R9, R29, R158). One that fails leaves the slot DAMAGED and
PROGRAM_FAIL. A fixed slot, and a ring slot of a LIVE ring that holds the generation of its position, becomes LOADED with
PROGRAM_ENDED in its record and PROGRAM_OK; a ring slot inside the window sets RING_CHANGED; and the next slot takes a pending
rotation's advance (R36). A ring slot that does not is retired, LOADED_STALE, with its record ended all the same. The model's
own choices in it are entries 2 and 36 of the log. -/
def Obligations.ProgramsComplete : Prop :=
  ∀ (s : State) (i : SlotIx) (left : Nat),
    s.engine.active = some { op := .slotOp (.program i), remaining := left } →
    let due := s.wait (s.engine.restLeft + left)
    let ends := fun (x : Slot) (nv : NvSlot) (code : Code) (flag : SiteFlag) =>
      ({ due with store := { s.store with slots := s.store.slots.set i x },
                  array := { s.array with slots := s.array.slots.set i nv },
                  engine := { due.engine with active := none,
                                              lastOutcome := some { kind := .program, target := .slot i, code := code } },
                  site := { s.site with flags := s.site.flags ||| flag.bit } } : State)
    let written : NvSlot := { marker := .programEnded, fields := (s.slot i).fields, key := (s.slot i).key, checkGood := true }
    let loaded := ends { s.slot i with state := .loaded } written .programOk .nvDone
    let told := if s.inWindow i = true then loaded.flagLanes .ringChanged else loaded
    let stands := s.ring.live = true ∧ (s.slot i).generation = some (s.ring.standsFor s.store.geometry i)
    let due' := s.ring.rotationPending = true ∧ s.slotPosition i = 1
    exec (.programComplete false) s =
      .next (ends { state := .damaged, fields := none, key := 0, markPending := false } (s.nvSlot i) .programFail .nvFailed).proceed ∧
    (s.inRing i = false → exec (.programComplete true) s = .next loaded.proceed) ∧
    (s.inRing i = true → stands → ¬due' → exec (.programComplete true) s = .next told.proceed) ∧
    (s.inRing i = true → stands → due' → exec (.programComplete true) s = .next told.advance.proceed) ∧
    (s.inRing i = true → ¬stands → exec (.programComplete true) s = .next
      ((ends (s.slot i) written .loadedStale .nvDone).retireSlots (· == i)).proceed)

/-- RETIRE of a LOADED slot outside a locked area, with the permit (R10, R17): the slot enters RETIRED with its fields and key,
it joins the retire-mark set, the permit clears, the cache entries, the others keeping their order, and the sessions of a ring
slot's generation go (R60), and RING_CHANGED is set when the slot lies inside the window. Every other RETIRE changes nothing
but the transaction, and says why in the order of the checks. The model's own choice in it is entry 19 of the log. -/
def Obligations.RetireCommand : Prop :=
  ∀ (s : State) (b : Byte), s.Admits .site →
    let refused := fun code : Code => exec (.retire [b]) s = .next (s.heard .site code [])
    (s.engine.permit = false → refused .noPermit) ∧
    (s.engine.permit = true → 64 ≤ b.toNat → refused .badSlot) ∧
    (s.engine.permit = true → ∀ i : SlotIx, b.toNat = i.val →
      (s.lockedSlot i = true → refused .locked) ∧
      (s.lockedSlot i = false → (s.slot i).state ≠ .loaded → refused .notLoaded) ∧
      (s.lockedSlot i = false → (s.slot i).state = .loaded →
        let gone := fun g => s.inRing i = true ∧ (s.slot i).generation = some g
        let told := s.inRing i = true ∧ s.inWindow i = true
        let values := if s.inRing i = true then (match (s.slot i).generation with | some g => genBytes g | none => []) else []
        let retired : Slot :=
          { state := .retired, fields := (s.slot i).fields, key := (s.slot i).key, markPending := true }
        ∃ t : State, exec (.retire [b]) s = .next t ∧
          t = { (s.heard .site .ok ([b] ++ values)) with
                store := { s.store with slots := s.store.slots.set i retired },
                engine := { s.engine with permit := false }, lanes := t.lanes, cache := t.cache } ∧
          (∃ keep : CacheEntry → Bool, (∀ e, keep e = true ↔ ¬gone e.generation) ∧ t.cache = s.cache.filter keep) ∧
          ∀ l,
            let lost := fun e : EntryIx => ∃ x, ((s.lane l).sessions[e]).session = some x ∧ gone x.generation
            (∀ e, lost e → (t.lane l).sessions[e] = { serial := ((s.lane l).sessions[e]).serial, session := none }) ∧
            (∀ e, ¬lost e → (t.lane l).sessions[e] = (s.lane l).sessions[e]) ∧
            ∃ x : Lane, ((∃ e, lost e) → x = (s.lane l).flag .sessionLost) ∧ ((∀ e, ¬lost e) → x = s.lane l) ∧
              t.lane l = { (if told then x.flag .ringChanged else x) with sessions := (t.lane l).sessions }))

/-- SUSPEND and RESUME (R146, R155, R156). SUSPEND holds an active program or erase with its remaining time, and the array
comes to rest 20 µs later; it turns an AUTO hold into a SITE hold; it is refused TOO_SOON within 200 µs of the last RESUME,
ALREADY_SUSPENDED with a SITE hold, and NOT_SUSPENDABLE with no program or erase to hold. RESUME makes a SITE hold active again
while the engine is IDLE, and notes the time; it is refused BUSY, or NOT_SUSPENDED without a SITE hold. The model's own choice
in it is entry 14 of the log. -/
def Obligations.SuspendAndResume : Prop :=
  ∀ s : State, s.Admits .site →
    let held := fun (op : SlotOp) (left : Nat) => [op.byte, op.target.byte] ++ beBytes 2 left
    let refused := fun (c : Instr) (code : Code) => exec c s = .next (s.heard .site code [])
    (∀ op left, s.engine.held = some { op := op, remaining := left, by_ := .site } →
      refused (.suspend []) .alreadySuspended ∧
      (s.idle = true → exec (.resume []) s = .next
        ({ s with engine := { s.engine with active := some { op := .slotOp op, remaining := left }, held := none,
                                            lastResume := some s.clock.time } }.heard .site .ok (held op left))) ∧
      (s.idle = false → refused (.resume []) .busy)) ∧
    ((∀ x, s.engine.held = some x → x.by_ = .auto) → refused (.resume []) .notSuspended) ∧
    (∀ op left, s.engine.held = some { op := op, remaining := left, by_ := .auto } →
      (s.tooSoon = true → refused (.suspend []) .tooSoon) ∧
      (s.tooSoon = false → exec (.suspend []) s = .next
        ({ s with engine := { s.engine with held := some { op := op, remaining := left, by_ := .site } } }.heard .site .ok
          (held op left)))) ∧
    (s.engine.held = none →
      (∀ op left, s.engine.active = some { op := .slotOp op, remaining := left } →
        (s.tooSoon = true → refused (.suspend []) .tooSoon) ∧
        (s.tooSoon = false → exec (.suspend []) s = .next
          ({ s with engine := { s.engine with active := none, held := some { op := op, remaining := left, by_ := .site },
                                              restLeft := 20 } }.heard .site .ok (held op left)))) ∧
      ((∀ op, s.engine.active.map (·.op) ≠ some (.slotOp op)) → refused (.suspend []) .notSuspendable)) ∧
    (s.tooSoon = true ↔ ∃ t, s.engine.lastResume = some t ∧ elapsed t s.clock.time < 200)

/-! ## The generation ring -/

/-- Positions (R24). The position of a generation is its distance from C the short way round, −2048 to 2047: C itself stands
at 0 and the next generation at +1, also past 4095, and different generations have different positions. Under the law of the
geometry the slot at a position of the ring range is a ring slot and has that position, and every ring slot has a position of
the ring range, whose slot it is (R25, R26). -/
def Obligations.PositionArithmetic : Prop :=
  (∀ (r : Ring) (g : Gen), r.position g = ((g.toNat : Int) - r.c.toNat + 2048) % 4096 - 2048 ∧
    -2048 ≤ r.position g ∧ r.position g ≤ 2047) ∧
  (∀ (r : Ring), r.position r.c = 0 ∧ r.position (r.c + 1) = 1) ∧
  (∀ (r : Ring) (g g' : Gen), r.position g = r.position g' → g = g') ∧
  (∀ (r : Ring) (p : Int), -2048 ≤ p → p ≤ 2047 → r.position (r.genAt p) = p) ∧
  (∀ (r : Ring) (geo : Geometry) (p : Int), geo.Ok → r.back ≤ geo.ring - 2 → r.h < geo.ring → r.inRange geo p = true →
    geo.area (r.slotAt geo p) = .ring ∧ r.slotPosition geo (r.slotAt geo p) = p) ∧
  (∀ (r : Ring) (geo : Geometry) (i : SlotIx), geo.Ok → r.back ≤ geo.ring - 2 → r.h < geo.ring → geo.area i = .ring →
    r.inRange geo (r.slotPosition geo i) = true ∧ r.slotAt geo (r.slotPosition geo i) = i)

/-- ADVANCE is taken when the ring is LIVE and the slot at position 1 is LOADED with generation C + 1 (R30), and answers the
new C and h; otherwise RING_UNSET or NEXT_NOT_LOADED. The timer's expiry takes the same advance at its moment when it can, and
otherwise marks the rotation pending, with ROTATE_LATE (R35). The alignment check of a LIVE ring retires every LOADED ring slot
that does not hold the generation of its position, and hands its generation to the cache, where the other entries keep their
order, and to the sessions (R28, R60). The advance itself (R31): C and h go one on, every LOADED ring slot that no longer holds
the generation of its position is retired with its cache entries and sessions, the timer reloads, no rotation is pending, a
generation record of the new C and h is requested, keeping a retry mark, ROT is high for 2 µs, and ROTATED is set on the site
port and on every lane port that is not DISABLED. The model's own choice in it is entry 2 of the log. -/
def Obligations.AdvanceMovesTheRing : Prop :=
  (∀ s : State,
     (s.nextReady = true ↔ s.ring.live = true ∧ (s.slot (s.ring.slotAt s.store.geometry 1)).state = .loaded ∧
       (s.slot (s.ring.slotAt s.store.geometry 1)).generation = some (s.ring.c + 1)) ∧
     (s.Admits .site →
       (s.nextReady = true → exec (.advance []) s = .next
         (s.advance.heard .site .ok (genBytes (s.ring.c + 1) ++ [numByte ((s.ring.h + 1) % s.store.geometry.ring)]))) ∧
       (s.ring.live = false → exec (.advance []) s = .next (s.heard .site .ringUnset [])) ∧
       (s.ring.live = true → s.nextReady = false → exec (.advance []) s = .next (s.heard .site .nextNotLoaded []))) ∧
     (s.power = .running → 0 < s.ring.period → s.ring.live = true → s.ring.rotationPending = false →
       let due := s.wait (s.ring.remaining * 1000000 - s.ring.secondRun)
       (s.nextReady = true → exec .rotationTimerExpiry s = .next due.advance) ∧
       (s.nextReady = false → exec .rotationTimerExpiry s = .next
         { due with ring := { due.ring with rotationPending := true, remaining := 0, secondRun := 0 },
                    site := { s.site with flags := s.site.flags ||| SiteFlag.rotateLate.bit } }))) ∧
  (∀ s : State,
     let t := s.alignmentCheck
     let left := fun i => s.ring.live = true ∧ s.inRing i = true ∧ (s.slot i).state = .loaded ∧
       (s.slot i).generation ≠ some (s.ring.standsFor s.store.geometry i)
     let gone := fun g => ∃ i, left i ∧ (s.slot i).generation = some g
     t = { s with store := t.store, cache := t.cache, lanes := t.lanes } ∧ t.store.geometry = s.store.geometry ∧
     (∀ i, left i → t.slot i = { s.slot i with state := .retired, markPending := true }) ∧
     (∀ i, ¬left i → t.slot i = s.slot i) ∧
     (∃ keep : CacheEntry → Bool, (∀ e, keep e = true ↔ ¬gone e.generation) ∧ t.cache = s.cache.filter keep) ∧
     ∀ l,
       let lost := fun e : EntryIx => ∃ x, ((s.lane l).sessions[e]).session = some x ∧ gone x.generation
       (∀ e, lost e → (t.lane l).sessions[e] = { serial := ((s.lane l).sessions[e]).serial, session := none }) ∧
       (∀ e, ¬lost e → (t.lane l).sessions[e] = (s.lane l).sessions[e]) ∧
       ((∃ e, lost e) → t.lane l = { (s.lane l).flag .sessionLost with sessions := (t.lane l).sessions }) ∧
       ((∀ e, ¬lost e) → t.lane l = s.lane l)) ∧
  (∀ s : State, s.ring.live = true →
     let t := s.advance
     let moved : Ring := { s.ring with c := s.ring.c + 1, h := (s.ring.h + 1) % s.store.geometry.ring }
     let left := fun i => s.inRing i = true ∧ (s.slot i).state = .loaded ∧
       (s.slot i).generation ≠ some (moved.standsFor s.store.geometry i)
     let gone := fun g => ∃ i, left i ∧ (s.slot i).generation = some g
     let retry := match s.engine.genRequest with | some r => r.retry | none => false
     t = { s with
           ring := { moved with remaining := s.ring.period, secondRun := 0, rotationPending := false },
           store := t.store, cache := t.cache, lanes := t.lanes,
           engine := { s.engine with genRequest := some { c := moved.c, h := moved.h, retry := retry } },
           clock := { s.clock with rotLeft := 2 },
           site := { s.site with flags := s.site.flags ||| SiteFlag.rotated.bit } } ∧
     t.store.geometry = s.store.geometry ∧
     (∀ i, left i → t.slot i = { s.slot i with state := .retired, markPending := true }) ∧
     (∀ i, ¬left i → t.slot i = s.slot i) ∧
     (∃ keep : CacheEntry → Bool, (∀ e, keep e = true ↔ ¬gone e.generation) ∧ t.cache = s.cache.filter keep) ∧
     ∀ l,
       let lost := fun e : EntryIx => ∃ x, ((s.lane l).sessions[e]).session = some x ∧ gone x.generation
       (∀ e, lost e → (t.lane l).sessions[e] = { serial := ((s.lane l).sessions[e]).serial, session := none }) ∧
       (∀ e, ¬lost e → (t.lane l).sessions[e] = (s.lane l).sessions[e]) ∧
       ∃ x : Lane, ((∃ e, lost e) → x = (s.lane l).flag .sessionLost) ∧ ((∀ e, ¬lost e) → x = s.lane l) ∧
         t.lane l = { x.flag .rotated with sessions := (t.lane l).sessions })

/-- CANCEL_ROTATION clears a pending rotation and reloads the timer at P, answering it; without one it answers NOT_PENDING
(R37). Neither does anything else. ROT falls when its pulse has run, and the array comes to rest when its 20 µs have (R32,
R146). What `n` µs do to a part with power (R32, R34, R66, R146, R185): the clocks, the counting rotation timer, the remaining
time of the active operation once the array is at rest, and the occupancy of the cipher engine; and nothing else. Without power
and in reset nothing proceeds. The model's own choices in it are entries 1 and 2 of the log. -/
def Obligations.TimePassesAndPulsesEnd : Prop :=
  (∀ s : State,
     (s.Admits .site →
       (s.ring.rotationPending = true → exec (.cancelRotation []) s = .next
         ({ s with ring := { s.ring with rotationPending := false, remaining := s.ring.period, secondRun := 0 } }.heard
           .site .ok (beBytes 4 s.ring.period))) ∧
       (s.ring.rotationPending = false → exec (.cancelRotation []) s = .next (s.heard .site .notPending []))) ∧
     exec .rotPulseEnd s = .next (s.wait s.clock.rotLeft) ∧
     (s.power = .starting ∨ s.power = .running → (s.wait s.clock.rotLeft).rotHigh = false) ∧
     exec .arrayAtRest s = .next (s.wait s.engine.restLeft) ∧
     (s.power = .starting ∨ s.power = .running → (s.wait s.engine.restLeft).engine.restLeft = 0)) ∧
  (∀ (s : State) (n : Nat),
     let t := s.wait n
     let k := (s.clock.tenths + 10 * n) / 10
     (s.power = .off ∨ s.power = .held → t = s) ∧
     (s.power = .starting ∨ s.power = .running →
       t = { s with clock := { time := s.clock.time + BitVec.ofNat 32 k, tenths := s.clock.tenths % 10,
                               startupLeft := s.clock.startupLeft - k, rotLeft := s.clock.rotLeft - k },
                    ring := { s.ring with remaining := t.ring.remaining, secondRun := t.ring.secondRun },
                    engine := { s.engine with
                      restLeft := s.engine.restLeft - k,
                      active := s.engine.active.map fun a => { a with remaining := a.remaining - (k - s.engine.restLeft) } },
                    cipher := { s.cipher with work := s.cipher.work.map fun w => { w with left := w.left - 10 * n } } } ∧
       (s.ring.period = 0 ∨ s.ring.live = false ∨ s.ring.rotationPending = true → t.ring = s.ring) ∧
       (0 < s.ring.period → s.ring.live = true → s.ring.rotationPending = false →
         (s.ring.secondRun + k < s.ring.remaining * 1000000 →
           t.ring.secondRun < 1000000 ∧
           t.ring.remaining * 1000000 + k + s.ring.secondRun = s.ring.remaining * 1000000 + t.ring.secondRun) ∧
         (s.ring.remaining * 1000000 ≤ s.ring.secondRun + k → t.ring.remaining = 0 ∧ t.ring.secondRun = 0))))

/-! ## Settings -/

/-- The settings commands (R38, R39, R41, R149, R167, R168, R170, R178). Each needs the permit, an IDLE engine with nothing
held and, but for SET_ROTATION and SET_WINDOW, a part that is not frozen; then its own checks, of which that of SET_WINDOW
passes unless a raised B would make a LOADED future slot a past one. Accepted, it clears the permit and begins a settings write
of 6 ms that carries every setting in force with its own value changed, clamped where the command clamps, and answers the
values. The model's own choices in it are entries 14 and 19 of the log. -/
def Obligations.SettingsAreAccepted : Prop :=
  ∀ s : State, s.Admits .site → s.engine.permit = true → s.idle = true → s.engine.held = none →
    let accepted := fun (c : Instr) (command : SettingsCommand) (record : Settings) (values : List Byte) =>
      exec c s = .next
        ({ s with engine := { s.engine with
            permit := false, active := some { op := .settings command record, remaining := 6000 } } }.heard
          .site .accepted values)
    let conflict := fun b : Nat => s.ring.live = true ∧ s.ring.back < b ∧
      ∃ i : SlotIx, s.inRing i = true ∧ (s.slot i).state = .loaded ∧
        let o := ((i.val : Int) - (s.store.geometry.head : Int) - (s.ring.h : Int)) % (s.store.geometry.ring : Int)
        (s.store.geometry.ring : Int) - (b : Int) ≤ o ∧ o ≤ (s.store.geometry.ring : Int) - 1 - (s.ring.back : Int)
    (∀ a b c d : Byte,
      let n := beNat [a, b, c, d]
      let p := if n = 0 then 0 else if n < 60 then 60 else if 604800 < n then 604800 else n
      accepted (.setRotation [a, b, c, d]) .rotation { s.settings with period := p } (beBytes 4 p)) ∧
    (∀ back ahead : Byte,
      let b := min back.toNat (s.store.geometry.ring - 2)
      let a := min ahead.toNat 1
      ¬conflict b →
      accepted (.setWindow [back, ahead]) .window { s.settings with back := b, ahead := a } [numByte b, numByte a]) ∧
    (s.protection.frozen = false →
      (∀ head ring c1 c0 : Byte,
        let geo : Geometry := { head := head.toNat, ring := ring.toNat }
        let back := min s.ring.back (ring.toNat - 2)
        let c : BitVec 16 := c1 ++ c0
        geo.Ok → c.toNat ≤ 4095 →
        (∀ i, (s.slot i).state ≠ .blank → s.inRing i = false ∧ geo.area i = s.areaOf i) →
        accepted (.setGeometry [head, ring, c1, c0]) (.geometry (c.setWidth 12)) { s.settings with geometry := geo, back := back }
          ([head, ring, numByte (64 - head.toNat - ring.toNat)] ++ beBytes 2 c.toNat ++ [numByte back])) ∧
      (∀ value : Byte,
        let on := value != 0
        accepted (.setProtectNv [0x01, value, 0x01]) (.protect .head) { s.settings with headProtect := on } [0x01, flagByte on] ∧
        accepted (.setProtectNv [0x02, value, 0x01]) (.protect .tail) { s.settings with tailProtect := on } [0x02, flagByte on] ∧
        accepted (.setFreeze [value]) .freeze { s.settings with freeze := on } [flagByte on]) ∧
      (s.protection.head.lock = false → accepted (.lockArea [0x01]) (.lock .head) s.settings [0x01]) ∧
      (s.protection.tail.lock = false → accepted (.lockArea [0x02]) (.lock .tail) s.settings [0x02]) ∧
      (∀ a b : Byte, accepted (.setSite [a, b]) .site { s.settings with siteCode := a ++ b } [a, b]) ∧
      (∀ mask : Byte, mask.toNat < 16 →
        accepted (.setLanes [mask]) .lanes { s.settings with laneEnable := mask.setWidth 4 } [mask]))

/-- The settings commands that are refused change nothing but the transaction (R149, R169): NO_PERMIT, BUSY, SUSPENDED, FROZEN,
in this order, and then by their own checks: WINDOW_CONFLICT (R39), BAD_GEOMETRY, RING_IN_USE and AREA_IN_USE (R41), BAD_AREA
(R165), LOCKED (R168) and BAD_ARGUMENT (R178). SET_CURRENT and SET_COUNTER that are refused change nothing but the transaction:
NO_PERMIT, BUSY, SUSPENDED, in this order, and then RING_LIVE or GEN_MISSING (R43), or COUNTER_BELOW (R121). The model's own
choice in it is entry 14 of the log. -/
def Obligations.SettingsAndRecordsAreRefused : Prop :=
  (∀ (s : State) (a b c d : Byte), s.Admits .site →
     let refused := fun (x : Instr) (code : Code) => exec x s = .next (s.heard .site code [])
     let free : List Instr := [.setRotation [a, b, c, d], .setWindow [a, b]]
     let frozen : List Instr := [.setGeometry [a, b, c, d], .setProtectNv [a, b, 0x01], .lockArea [a], .setFreeze [a],
       .setSite [a, b], .setLanes [a]]
     (∀ x ∈ free ++ frozen,
       (s.engine.permit = false → refused x .noPermit) ∧
       (s.engine.permit = true → s.idle = false → refused x .busy) ∧
       (s.engine.permit = true → s.idle = true → s.engine.held ≠ none → refused x .suspended)) ∧
     (s.engine.permit = true → s.idle = true → s.engine.held = none →
       (s.protection.frozen = true → ∀ x ∈ frozen, refused x .frozen) ∧
       (let back := min a.toNat (s.store.geometry.ring - 2)
        s.ring.live = true → s.ring.back < back →
        ∀ i : SlotIx, s.inRing i = true → (s.slot i).state = .loaded →
          let o := ((i.val : Int) - (s.store.geometry.head : Int) - (s.ring.h : Int)) % (s.store.geometry.ring : Int)
          (s.store.geometry.ring : Int) - (back : Int) ≤ o → o ≤ (s.store.geometry.ring : Int) - 1 - (s.ring.back : Int) →
          refused (.setWindow [a, b]) .windowConflict) ∧
       (s.protection.frozen = false →
         let geo : Geometry := { head := a.toNat, ring := b.toNat }
         let inUse := fun i => (s.slot i).state ≠ .blank
         (¬geo.Ok ∨ 16 ≤ c.toNat → refused (.setGeometry [a, b, c, d]) .badGeometry) ∧
         (geo.Ok → c.toNat < 16 → ∀ i, inUse i → s.inRing i = true ∨ geo.area i = .ring →
           refused (.setGeometry [a, b, c, d]) .ringInUse) ∧
         (geo.Ok → c.toNat < 16 → (∀ i, inUse i → s.inRing i = false ∧ geo.area i ≠ .ring) →
           ∀ i, inUse i → geo.area i ≠ s.areaOf i → refused (.setGeometry [a, b, c, d]) .areaInUse) ∧
         (a ≠ 0x01 → a ≠ 0x02 → refused (.setProtectNv [a, b, 0x01]) .badArea ∧ refused (.lockArea [a]) .badArea) ∧
         ((a = 0x01 ∧ s.protection.head.lock = true) ∨ (a = 0x02 ∧ s.protection.tail.lock = true) →
           refused (.lockArea [a]) .locked) ∧
         (16 ≤ a.toNat → refused (.setLanes [a]) .badArgument)))) ∧
  (∀ (s : State) (a b c d : Byte), s.Admits .site →
     let refused := fun (x : Instr) (code : Code) => exec x s = .next (s.heard .site code [])
     (∀ x ∈ ([.setCurrent [a, b], .setCounter [a, b, c, d]] : List Instr),
       (s.engine.permit = false → refused x .noPermit) ∧
       (s.engine.permit = true → s.idle = false → refused x .busy) ∧
       (s.engine.permit = true → s.idle = true → s.engine.held ≠ none → refused x .suspended)) ∧
     (s.engine.permit = true → s.idle = true → s.engine.held = none →
       (s.ring.live = true → refused (.setCurrent [a, b]) .ringLive) ∧
       (s.ring.live = false →
         (16 ≤ a.toNat ∨ ∀ i g, s.inRing i = true → (s.slot i).state = .loaded → (s.slot i).generation = some g →
           (a ++ b : BitVec 16) ≠ g.setWidth 16) → refused (.setCurrent [a, b]) .genMissing) ∧
       (s.counter.state ≠ .unset → beNat [a, b, c, d] < s.counter.next → refused (.setCounter [a, b, c, d]) .counterBelow)))

/-- The volatile SET_PROTECT (R165, R166) needs neither permit nor write engine: unless the part is frozen it makes the area's
overlay valid with the value, at once, and answers the area's protection after it. An area byte other than those of the two
areas answers BAD_AREA, and an option byte other than those of the two options BAD_ARGUMENT. The model's own choices in it are
entries 19 and 35 of the log. -/
def Obligations.VolatileProtection : Prop :=
  ∀ (s : State) (value : Byte), s.Admits .site →
    let overlaid := fun x : AreaProtection => ({ x with overlayValid := true, overlay := value != 0 } : AreaProtection)
    let values := fun (area : Byte) (x : AreaProtection) =>
      [area, flagByte x.nv, flagByte x.overlayValid, flagByte x.overlay, flagByte x.lock, flagByte x.effective]
    (s.protection.frozen = true → ∀ area, exec (.setProtectVolatile [area, value, 0]) s = .next (s.heard .site .frozen [])) ∧
    (s.protection.frozen = false →
      exec (.setProtectVolatile [0x01, value, 0]) s = .next
        ({ s with protection := { s.protection with head := overlaid s.protection.head } }.heard .site .ok
          (values 0x01 (overlaid s.protection.head))) ∧
      exec (.setProtectVolatile [0x02, value, 0]) s = .next
        ({ s with protection := { s.protection with tail := overlaid s.protection.tail } }.heard .site .ok
          (values 0x02 (overlaid s.protection.tail))) ∧
      ∀ area : Byte, area ≠ 0x01 → area ≠ 0x02 →
        exec (.setProtectVolatile [area, value, 0]) s = .next (s.heard .site .badArea [])) ∧
    ∀ area option : Byte, option ≠ 0 → option ≠ 0x01 →
      exec (.setProtectVolatile [area, value, option]) s = .next (s.heard .site .badArgument [])

/-- The completion of a settings write that verified, at the end of its time (R38, R40, R149, R151, R158, R167, R168, R170,
R178): the record holds what it carried, SETTINGS leaves the record fault set, the owning block takes its value, SETTINGS_OK is
recorded with NV_DONE, and the engine goes on with what is outstanding. At the completion of SET_WINDOW the alignment check
runs, and then, of a LIVE ring, the cache entries whose generation lies outside the new window go, the others keeping their
order (R62). The model's own choices in it are entries 2 and 28 of the log. -/
def Obligations.SettingsComplete : Prop :=
  ∀ (s : State) (left : Nat) (command : SettingsCommand) (r : Settings),
    s.engine.active = some { op := .settings command r, remaining := left } →
    let due := s.wait (s.engine.restLeft + left)
    let good : State :=
      { due with array := { s.array with settings := .good r },
                 engine := { due.engine with
                   active := none, faults := { s.engine.faults with settings := false },
                   lastOutcome := some { kind := .settings, target := .command command, code := .settingsOk } },
                 site := { s.site with flags := s.site.flags ||| SiteFlag.nvDone.bit } }
    let done := fun (c : Instr) (t : State) => exec c s = .next t.proceed
    let safe := fun (x : AreaProtection) (v : Bool) => ({ x with nv := v, overlayValid := false } : AreaProtection)
    (command = .rotation → done (.setRotationComplete true)
      { good with ring := { good.ring with period := r.period, remaining := r.period, secondRun := 0 } }) ∧
    (command = .window →
      let checked := { good with ring := { good.ring with back := r.back, ahead := r.ahead } }.alignmentCheck
      let inside := fun g : Gen => -(r.back : Int) ≤ s.ring.position g ∧ s.ring.position g ≤ (r.ahead : Int)
      ∃ keep : CacheEntry → Bool, (∀ e, keep e = true ↔ (s.ring.live = true → inside e.generation)) ∧
        done (.setWindowComplete true) ({ checked with cache := checked.cache.filter keep }.flagLanes .ringChanged)) ∧
    (command = .protect .head → done (.setProtectNvComplete true)
      { good with protection := { s.protection with head := safe s.protection.head r.headProtect } }) ∧
    (command = .protect .tail → done (.setProtectNvComplete true)
      { good with protection := { s.protection with tail := safe s.protection.tail r.tailProtect } }) ∧
    (command = .lock .head → done (.lockAreaComplete true true)
      { good with array := { s.array with settings := .good r, headCell := true },
                  protection := { s.protection with head := { s.protection.head with lock := true } } }) ∧
    (command = .lock .tail → done (.lockAreaComplete true true)
      { good with array := { s.array with settings := .good r, tailCell := true },
                  protection := { s.protection with tail := { s.protection.tail with lock := true } } }) ∧
    (command = .freeze → done (.setFreezeComplete true)
      { good with protection := { s.protection with freeze := r.freeze } }) ∧
    (command = .site → done (.setSiteComplete true) { good with siteCode := r.siteCode }) ∧
    (command = .lanes → ∃ t : State, done (.setLanesComplete true) t ∧
      t = { good with laneEnable := r.laneEnable, lanes := t.lanes, cipher := t.cipher } ∧
      (∀ l, s.laneEnable.getLsbD l.val = r.laneEnable.getLsbD l.val → t.lane l = s.lane l) ∧
      (∀ l, s.laneEnable.getLsbD l.val = true → r.laneEnable.getLsbD l.val = false →
        t.lane l = { (s.lane l) with
          port := { (s.lane l).port with state := .disabled }, flags := 0, enables := 0, jobs := [], results := [],
          counterWait := false,
          sessions := Vector.ofFn fun e => { (s.lane l).sessions[e] with session := none } }) ∧
      (∀ l, s.laneEnable.getLsbD l.val = false → r.laneEnable.getLsbD l.val = true →
        t.lane l = { (s.lane l) with
          port := { (s.lane l).port with state := .resync, checkCount := 0, frameCount := 0, commandCount := 0 },
          flags := 0, enables := 0 }) ∧
      t.cipher.lastGranted = s.cipher.lastGranted ∧
      t.cipher.work = due.cipher.work.map fun w =>
        { w with detached := w.detached || match w.requester with
          | .lane l => s.laneEnable.getLsbD l.val && !r.laneEnable.getLsbD l.val
          | .site => false })

/-- The completion of a SET_GEOMETRY that verified (R42): geometry, B, C0 with h at 0 and a LIVE ring, no pending rotation, the
timer at P, no generation-record request, an empty cache, every session lost, RING_CHANGED, both records good, and SETTINGS_OK.
The model's own choices in it are entries 2 and 33 of the log. -/
def Obligations.GeometryCompletes : Prop :=
  ∀ (s : State) (left : Nat) (c : Gen) (r : Settings),
    s.engine.active = some { op := .settings (.geometry c) r, remaining := left } →
    let due := s.wait (s.engine.restLeft + left)
    ∃ t : State, exec (.setGeometryComplete true) s = .next t.proceed ∧
      t = { due with
            store := { s.store with geometry := r.geometry },
            ring := { s.ring with live := true, c := c, h := 0, back := min s.ring.back (r.geometry.ring - 2),
                                  remaining := s.ring.period, secondRun := 0, rotationPending := false },
            cache := [], lanes := t.lanes,
            array := { s.array with settings := .good r, generation := .good { live := true, c := c, h := 0 } },
            engine := { due.engine with
              active := none, genRequest := none, faults := { s.engine.faults with settings := false, generation := false },
              lastOutcome := some { kind := .settings, target := .command (.geometry c), code := .settingsOk } },
            site := { s.site with flags := s.site.flags ||| SiteFlag.nvDone.bit } } ∧
      ∀ l, ∃ x : Lane,
        ((∃ e : EntryIx, ((s.lane l).sessions[e]).session ≠ none) → x = (s.lane l).flag .sessionLost) ∧
        ((∀ e : EntryIx, ((s.lane l).sessions[e]).session = none) → x = s.lane l) ∧
        t.lane l = { x.flag .ringChanged with
          sessions := Vector.ofFn fun e => { (s.lane l).sessions[e] with session := none } }

/-- A settings write that failed (R150, R151, R168): the settings record reads damaged, SETTINGS joins the record fault set,
nothing is applied, and SETTINGS_FAIL is recorded with NV_FAILED; a SET_GEOMETRY spoils the generation record with it. A
LOCK_AREA whose cell alone failed leaves the record good and the fault set as it is. The model's own choices in it are entries
2, 16 and 33 of the log. -/
def Obligations.SettingsFail : Prop :=
  ∀ (s : State) (left : Nat) (command : SettingsCommand) (r : Settings) (c : Instr),
    s.engine.active = some { op := .settings command r, remaining := left } →
    let due := s.wait (s.engine.restLeft + left)
    let failed : State :=
      { due with engine := { due.engine with
                   active := none, lastOutcome := some { kind := .settings, target := .command command, code := .settingsFail } },
                 site := { s.site with flags := s.site.flags ||| SiteFlag.nvFailed.bit } }
    ((command = .rotation ∧ c = .setRotationComplete false) ∨ (command = .window ∧ c = .setWindowComplete false) ∨
      (∃ a, command = .protect a ∧ c = .setProtectNvComplete false) ∨
      (∃ a cell, command = .lock a ∧ c = .lockAreaComplete false cell) ∨
      (command = .freeze ∧ c = .setFreezeComplete false) ∨ (command = .site ∧ c = .setSiteComplete false) ∨
      (command = .lanes ∧ c = .setLanesComplete false) →
      exec c s = .next
        { failed with array := { s.array with settings := .damaged },
                      engine := { failed.engine with faults := { s.engine.faults with settings := true } } }.proceed) ∧
    (∀ c0, command = .geometry c0 → exec (.setGeometryComplete false) s = .next
      { failed with array := { s.array with settings := .damaged, generation := .damaged },
                    engine := { failed.engine with
                      faults := { s.engine.faults with settings := true, generation := true } } }.proceed) ∧
    (∀ a, command = .lock a → exec (.lockAreaComplete true false) s = .next
      { failed with array := { s.array with settings := .good r } }.proceed)

/-! ## Record writes and the order of the write engine -/

/-- SET_CURRENT and SET_COUNTER (R43, R121), which need the permit and an IDLE engine with nothing held. SET_CURRENT, for an
UNSET ring, takes the lowest ring slot LOADED with the generation, and answers it and its offset from H; SET_COUNTER takes a
base not below `next`, marks a SET_COUNTER in progress, and answers the base and a limit 4096 above it, at most the highest.
Each clears the permit and begins a record write of 1 ms. The model's own choices in it are entries 14 and 37 of the log. -/
def Obligations.RecordCommandsBegin : Prop :=
  ∀ (s : State) (a b c d : Byte), s.Admits .site → s.engine.permit = true → s.idle = true → s.engine.held = none →
    (∀ (i : SlotIx) (g : Gen),
      let holds := fun j => s.inRing j = true ∧ (s.slot j).state = .loaded ∧ (s.slot j).generation = some g
      s.ring.live = false → (a ++ b : BitVec 16) = g.setWidth 16 → holds i → (∀ j < i, ¬holds j) →
      let h := i.val - s.store.geometry.head
      exec (.setCurrent [a, b]) s = .next
        ({ s with engine := { s.engine with
            permit := false, active := some { op := .setCurrent i g h, remaining := 1000 } } }.heard
          .site .accepted [numByte i.val, numByte h])) ∧
    (let base := beNat [a, b, c, d]
     let limit := min (base + 4096) 4294967295
     s.counter.state = .unset ∨ s.counter.next ≤ base →
      exec (.setCounter [a, b, c, d]) s = .next
        ({ s with counter := { s.counter with setting := true },
                  engine := { s.engine with
                    permit := false, active := some { op := .setCounter base limit, remaining := 1000 } } }.heard
          .site .accepted (beBytes 4 base ++ beBytes 4 limit)))

/-- The completion of SET_CURRENT (R44, R158): the ring is LIVE at C and h, the alignment check and the reload of the timer
follow, RING_CHANGED is set on the lanes, the generation record is good, and RECORD_OK is recorded with NV_DONE; or the record
is damaged, GENERATION joins the record fault set, and RECORD_FAIL is recorded with NV_FAILED. The completion of SET_COUNTER
(R117, R120, R123, R158): the counter stands at the base and the limit, RUNNING, or EXHAUSTED at the highest base with COUNTER
set; or, after a failure, as it stood. No SET_COUNTER is in progress, every lane leaves the counter wait, the low-water
condition is examined, which requests a reservation where it holds, and the outcome is recorded. The model's own choices in it
are entries 2 and 17 of the log. -/
def Obligations.RecordCommandsComplete : Prop :=
  (∀ (s : State) (i : SlotIx) (g : Gen) (h left : Nat),
     s.engine.active = some { op := .setCurrent i g h, remaining := left } →
     let due := s.wait (s.engine.restLeft + left)
     let ends := fun (record : NvRecord GenRecord) (fault : Bool) (code : Code) (flag : SiteFlag) =>
       ({ due with array := { s.array with generation := record },
                   engine := { due.engine with
                     active := none, faults := { s.engine.faults with generation := fault },
                     lastOutcome := some { kind := .genRecord, target := .slot i, code := code } },
                   site := { s.site with flags := s.site.flags ||| flag.bit } } : State)
     let good := ends (.good { live := true, c := g, h := h }) false .recordOk .nvDone
     let checked := { good with ring := { good.ring with live := true, c := g, h := h } }.alignmentCheck
     exec (.setCurrentComplete true) s = .next
       (({ checked with ring := { checked.ring with remaining := s.ring.period, secondRun := 0 } }.flagLanes
         .ringChanged).proceed) ∧
     exec (.setCurrentComplete false) s = .next (ends .damaged true .recordFail .nvFailed).proceed) ∧
  (∀ (s : State) (base limit left : Nat),
     s.engine.active = some { op := .setCounter base limit, remaining := left } →
     let due := s.wait (s.engine.restLeft + left)
     let woken := fun (t : State) => t.mapLanes fun x => { x with counterWait := false }
     let ends := fun (record : NvRecord Nat) (fault : Bool) (counter : Counter) (flags : BitVec 7) (code : Code) =>
       (woken { due with array := { s.array with counter := record },
                         counter := counter,
                         engine := { due.engine with
                           active := none, faults := { s.engine.faults with counter := fault },
                           lastOutcome := some { kind := .counterRecord, target := .none, code := code } },
                         site := { s.site with flags := s.site.flags ||| flags } }).examineLowWater.proceed
     (base ≠ 4294967295 → exec (.setCounterComplete true) s = .next (ends (.good limit) false
       { s.counter with state := .running, next := base, limit := limit, setting := false } SiteFlag.nvDone.bit .recordOk)) ∧
     (base = 4294967295 → exec (.setCounterComplete true) s = .next (ends (.good limit) false
       { s.counter with state := .exhausted, next := base, limit := limit, setting := false }
       (SiteFlag.counter.bit ||| SiteFlag.nvDone.bit) .recordOk)) ∧
     exec (.setCounterComplete false) s = .next
       (ends .damaged true { s.counter with setting := false } SiteFlag.nvFailed.bit .recordFail)) ∧
  (∀ s : State,
     let low := s.counter.state = .running ∧ s.counter.limit - s.counter.next ≤ 1024 ∧ s.counter.limit < 4294967295 ∧
       s.counter.reserving = false ∧ s.counter.setting = false
     (low → s.examineLowWater = { s with
       counter := { s.counter with reserving := true },
       engine := { s.engine with
         counterRequest := some { limit := min (s.counter.limit + 4096) 4294967295, retry := false } } }) ∧
     (¬low → s.examineLowWater = s))

/-- The completion of a reservation (R118, R119, R154): the limit rises to the record's and every lane leaves the counter wait,
the low-water condition examined again; a first failure requests it once more; a failed retry ends it, with COUNTER in the
record fault set, NV_FAILED, and the lanes out of the counter wait. The completion of an internal generation-record write (R45,
R46, R154): the record is good with the values it took, and GENERATION leaves the record fault set; a first failure requests
the values now current once more, unless a newer request is outstanding; a failed retry ends it with GENERATION in the record
fault set and NV_FAILED. The model's own choices in it are entries 2 and 15 of the log. -/
def Obligations.InternalRecordsComplete : Prop :=
  (∀ (s : State) (limit left : Nat) (retry : Bool),
     s.engine.active = some { op := .reservation limit retry, remaining := left } →
     let due := s.wait (s.engine.restLeft + left)
     let woken := fun (t : State) => t.mapLanes fun x => { x with counterWait := false }
     let idle : State := { due with engine := { due.engine with active := none } }
     exec (.reservationComplete true) s = .next
       (woken { idle with array := { s.array with counter := .good limit },
                          counter := { s.counter with limit := limit, reserving := false },
                          engine := { idle.engine with faults := { s.engine.faults with counter := false } }
              }).examineLowWater.proceed ∧
     (retry = false → exec (.reservationComplete false) s = .next
       { idle with array := { s.array with counter := .damaged },
                   engine := { idle.engine with counterRequest := some { limit := limit, retry := true } } }.proceed) ∧
     (retry = true → exec (.reservationComplete false) s = .next
       (woken { idle with array := { s.array with counter := .damaged },
                          counter := { s.counter with reserving := false },
                          engine := { idle.engine with faults := { s.engine.faults with counter := true } },
                          site := { s.site with flags := s.site.flags ||| SiteFlag.nvFailed.bit } }).proceed)) ∧
  (∀ (s : State) (c : Gen) (h left : Nat) (retry : Bool),
     s.engine.active = some { op := .genRecord c h retry, remaining := left } →
     let due := s.wait (s.engine.restLeft + left)
     let idle : State := { due with engine := { due.engine with active := none } }
     let spoilt : State := { idle with array := { s.array with generation := .damaged } }
     exec (.genRecordComplete true) s = .next
       { idle with array := { s.array with generation := .good { live := true, c := c, h := h } },
                   engine := { idle.engine with faults := { s.engine.faults with generation := false } } }.proceed ∧
     (retry = false → s.engine.genRequest ≠ none → exec (.genRecordComplete false) s = .next spoilt.proceed) ∧
     (retry = false → s.engine.genRequest = none → exec (.genRecordComplete false) s = .next
       { spoilt with engine := { idle.engine with
           genRequest := some { c := s.ring.c, h := s.ring.h, retry := true } } }.proceed) ∧
     (retry = true → exec (.genRecordComplete false) s = .next
       { spoilt with engine := { idle.engine with faults := { s.engine.faults with generation := true } },
                     site := { s.site with flags := s.site.flags ||| SiteFlag.nvFailed.bit } }.proceed))

/-- The completion of a retire-mark write (R14, R154): the records of the slots it took carry RETIRE_MARKED, they leave the
retire-mark set, and RETIRE_MARKS leaves the record fault set. When it failed each of those records has its old marker or the
new one: after a first failure the slots stay in the set, with the retry mark unless others have joined it meanwhile; after a
failed retry they leave it, with RETIRE_MARKS in the record fault set and NV_FAILED. The model's own choices in it are entries
2, 5 and 15 of the log. -/
def Obligations.RetireMarksComplete : Prop :=
  ∀ (s : State) (taken : List SlotIx) (left : Nat) (retry : Bool),
    s.engine.active = some { op := .retireMarks taken retry, remaining := left } →
    let due := s.wait (s.engine.restLeft + left)
    let marked := fun i => { s.nvSlot i with marker := Marker.retireMarked }
    (∃ t : State, exec (.retireMarkComplete true) s = .next t.proceed ∧
      t = { due with store := t.store, array := t.array,
                     engine := { due.engine with active := none, faults := { s.engine.faults with retireMarks := false } } } ∧
      t.store.geometry = s.store.geometry ∧ t.array = { s.array with slots := t.array.slots } ∧
      (∀ i ∈ taken, t.nvSlot i = marked i ∧ t.slot i = { s.slot i with markPending := false }) ∧
      (∀ i, i ∉ taken → t.nvSlot i = s.nvSlot i ∧ t.slot i = s.slot i)) ∧
    (retry = false → ∃ t : State, exec (.retireMarkComplete false) s = .next t.proceed ∧
      t = { due with array := t.array, draws := s.draws + 1,
                     engine := { due.engine with active := none, retireRetry := t.engine.retireRetry } } ∧
      (t.engine.retireRetry = true ↔ ∀ i, (s.slot i).markPending = true → i ∈ taken) ∧
      t.array = { s.array with slots := t.array.slots } ∧
      (∀ i ∈ taken, t.nvSlot i = s.nvSlot i ∨ t.nvSlot i = marked i) ∧ (∀ i, i ∉ taken → t.nvSlot i = s.nvSlot i)) ∧
    (retry = true → ∃ t : State, exec (.retireMarkComplete false) s = .next t.proceed ∧
      t = { due with store := t.store, array := t.array, draws := s.draws + 1,
                     engine := { due.engine with active := none, faults := { s.engine.faults with retireMarks := true } },
                     site := { s.site with flags := s.site.flags ||| SiteFlag.nvFailed.bit } } ∧
      t.store.geometry = s.store.geometry ∧ t.array = { s.array with slots := t.array.slots } ∧
      (∀ i ∈ taken, (t.nvSlot i = s.nvSlot i ∨ t.nvSlot i = marked i) ∧ t.slot i = { s.slot i with markPending := false }) ∧
      (∀ i, i ∉ taken → t.nvSlot i = s.nvSlot i ∧ t.slot i = s.slot i))

/-- The order of the internal writes (R152, R153). An IDLE engine starts the counter-record write first, then the generation-
record write, then the retire-mark write of the whole retire-mark set, each for 1 ms and each with its request gone; a site
erase with nothing held gives way to it, held by AUTO with its remaining time; any other operation is waited for. When an
operation has ended with no request outstanding an AUTO hold becomes active again, and otherwise the engine is IDLE. The
model's own choice in it is entry 14 of the log. -/
def Obligations.InternalWritesGoInOrder : Prop :=
  ∀ s : State,
    let writes := fun (t u : State) =>
      (∀ r, t.engine.counterRequest = some r → u = { t with engine := { t.engine with
        counterRequest := none, active := some { op := .reservation r.limit r.retry, remaining := 1000 } } }) ∧
      (t.engine.counterRequest = none → ∀ r, t.engine.genRequest = some r → u = { t with engine := { t.engine with
        genRequest := none, active := some { op := .genRecord r.c r.h r.retry, remaining := 1000 } } }) ∧
      (t.engine.counterRequest = none → t.engine.genRequest = none → t.retireOutstanding = true →
        u = { t with engine := { t.engine with
          retireRetry := false,
          active := some { op := .retireMarks (allSlots.filter fun i => (t.slot i).markPending) t.engine.retireRetry,
                           remaining := 1000 } } })
    (s.power = .running → s.requestOutstanding = true →
      (s.engine.active = none → ∃ u, exec .internalWriteStart s = .next u ∧ writes s u) ∧
      (∀ op left, s.engine.active = some { op := .slotOp op, remaining := left } → op.isProgram = false →
        s.engine.held = none → ∃ u, exec .internalWriteStart s = .next u ∧
          writes { s with engine := { s.engine with active := none, restLeft := 20,
                                                    held := some { op := op, remaining := left, by_ := .auto } } } u) ∧
      (∀ a, s.engine.active = some a → (∀ op, a.op = .slotOp op → op.isProgram = true) ∨ s.engine.held ≠ none →
        exec .internalWriteStart s = .next s)) ∧
    (s.requestOutstanding = true → writes s s.proceed) ∧
    (s.requestOutstanding = false →
      (∀ op left, s.engine.held = some { op := op, remaining := left, by_ := .auto } →
        s.proceed = { s with engine := { s.engine with active := some { op := .slotOp op, remaining := left }, held := none } }) ∧
      ((∀ x, s.engine.held = some x → x.by_ = .site) → s.proceed = s))

end
end

