-- ==== Sys2Proof/Laws/State.lean ====
section
/-! SUPPORT. What each update of the state leaves alone and what it writes: one lemma for each field of each update, all of them
simp lemmas, so that no proof unfolds a record update. -/

namespace Sys2Proof.Machine

variable (s : State)

/-! ### `State.setLane` -/

@[simp] theorem State.setLane_power (l : LaneIx) (x : Lane) : (s.setLane l x).power = s.power := by unfold State.setLane; rfl
@[simp] theorem State.setLane_rst (l : LaneIx) (x : Lane) : (s.setLane l x).rst = s.rst := by unfold State.setLane; rfl
@[simp] theorem State.setLane_clock (l : LaneIx) (x : Lane) : (s.setLane l x).clock = s.clock := by unfold State.setLane; rfl
@[simp] theorem State.setLane_array (l : LaneIx) (x : Lane) : (s.setLane l x).array = s.array := by unfold State.setLane; rfl
@[simp] theorem State.setLane_store (l : LaneIx) (x : Lane) : (s.setLane l x).store = s.store := by unfold State.setLane; rfl
@[simp] theorem State.setLane_ring (l : LaneIx) (x : Lane) : (s.setLane l x).ring = s.ring := by unfold State.setLane; rfl
@[simp] theorem State.setLane_lanes (l : LaneIx) (x : Lane) : (s.setLane l x).lanes = s.lanes.set l x := by unfold State.setLane; rfl
@[simp] theorem State.setLane_site (l : LaneIx) (x : Lane) : (s.setLane l x).site = s.site := by unfold State.setLane; rfl
@[simp] theorem State.setLane_cipher (l : LaneIx) (x : Lane) : (s.setLane l x).cipher = s.cipher := by unfold State.setLane; rfl
@[simp] theorem State.setLane_cache (l : LaneIx) (x : Lane) : (s.setLane l x).cache = s.cache := by unfold State.setLane; rfl
@[simp] theorem State.setLane_counter (l : LaneIx) (x : Lane) : (s.setLane l x).counter = s.counter := by unfold State.setLane; rfl
@[simp] theorem State.setLane_engine (l : LaneIx) (x : Lane) : (s.setLane l x).engine = s.engine := by unfold State.setLane; rfl
@[simp] theorem State.setLane_protection (l : LaneIx) (x : Lane) : (s.setLane l x).protection = s.protection := by unfold State.setLane; rfl
@[simp] theorem State.setLane_siteCode (l : LaneIx) (x : Lane) : (s.setLane l x).siteCode = s.siteCode := by unfold State.setLane; rfl
@[simp] theorem State.setLane_laneEnable (l : LaneIx) (x : Lane) : (s.setLane l x).laneEnable = s.laneEnable := by unfold State.setLane; rfl
@[simp] theorem State.setLane_monitor (l : LaneIx) (x : Lane) : (s.setLane l x).monitor = s.monitor := by unfold State.setLane; rfl
@[simp] theorem State.setLane_sessionLife (l : LaneIx) (x : Lane) : (s.setLane l x).sessionLife = s.sessionLife := by unfold State.setLane; rfl
@[simp] theorem State.setLane_notes (l : LaneIx) (x : Lane) : (s.setLane l x).notes = s.notes := by unfold State.setLane; rfl
@[simp] theorem State.setLane_draws (l : LaneIx) (x : Lane) : (s.setLane l x).draws = s.draws := by unfold State.setLane; rfl
@[simp] theorem State.setLane_pending (l : LaneIx) (x : Lane) : (s.setLane l x).pending = s.pending := by unfold State.setLane; rfl

/-! ### `State.mapLanes` -/

@[simp] theorem State.mapLanes_power (f : Lane → Lane) : (s.mapLanes f).power = s.power := by unfold State.mapLanes; rfl
@[simp] theorem State.mapLanes_rst (f : Lane → Lane) : (s.mapLanes f).rst = s.rst := by unfold State.mapLanes; rfl
@[simp] theorem State.mapLanes_clock (f : Lane → Lane) : (s.mapLanes f).clock = s.clock := by unfold State.mapLanes; rfl
@[simp] theorem State.mapLanes_array (f : Lane → Lane) : (s.mapLanes f).array = s.array := by unfold State.mapLanes; rfl
@[simp] theorem State.mapLanes_store (f : Lane → Lane) : (s.mapLanes f).store = s.store := by unfold State.mapLanes; rfl
@[simp] theorem State.mapLanes_ring (f : Lane → Lane) : (s.mapLanes f).ring = s.ring := by unfold State.mapLanes; rfl
@[simp] theorem State.mapLanes_site (f : Lane → Lane) : (s.mapLanes f).site = s.site := by unfold State.mapLanes; rfl
@[simp] theorem State.mapLanes_cipher (f : Lane → Lane) : (s.mapLanes f).cipher = s.cipher := by unfold State.mapLanes; rfl
@[simp] theorem State.mapLanes_cache (f : Lane → Lane) : (s.mapLanes f).cache = s.cache := by unfold State.mapLanes; rfl
@[simp] theorem State.mapLanes_counter (f : Lane → Lane) : (s.mapLanes f).counter = s.counter := by unfold State.mapLanes; rfl
@[simp] theorem State.mapLanes_engine (f : Lane → Lane) : (s.mapLanes f).engine = s.engine := by unfold State.mapLanes; rfl
@[simp] theorem State.mapLanes_protection (f : Lane → Lane) : (s.mapLanes f).protection = s.protection := by unfold State.mapLanes; rfl
@[simp] theorem State.mapLanes_siteCode (f : Lane → Lane) : (s.mapLanes f).siteCode = s.siteCode := by unfold State.mapLanes; rfl
@[simp] theorem State.mapLanes_laneEnable (f : Lane → Lane) : (s.mapLanes f).laneEnable = s.laneEnable := by unfold State.mapLanes; rfl
@[simp] theorem State.mapLanes_monitor (f : Lane → Lane) : (s.mapLanes f).monitor = s.monitor := by unfold State.mapLanes; rfl
@[simp] theorem State.mapLanes_sessionLife (f : Lane → Lane) : (s.mapLanes f).sessionLife = s.sessionLife := by unfold State.mapLanes; rfl
@[simp] theorem State.mapLanes_notes (f : Lane → Lane) : (s.mapLanes f).notes = s.notes := by unfold State.mapLanes; rfl
@[simp] theorem State.mapLanes_draws (f : Lane → Lane) : (s.mapLanes f).draws = s.draws := by unfold State.mapLanes; rfl
@[simp] theorem State.mapLanes_pending (f : Lane → Lane) : (s.mapLanes f).pending = s.pending := by unfold State.mapLanes; rfl

/-! ### `State.mapLanesAt` -/

@[simp] theorem State.mapLanesAt_power (f : LaneIx → Lane → Lane) : (s.mapLanesAt f).power = s.power := by unfold State.mapLanesAt; rfl
@[simp] theorem State.mapLanesAt_rst (f : LaneIx → Lane → Lane) : (s.mapLanesAt f).rst = s.rst := by unfold State.mapLanesAt; rfl
@[simp] theorem State.mapLanesAt_clock (f : LaneIx → Lane → Lane) : (s.mapLanesAt f).clock = s.clock := by unfold State.mapLanesAt; rfl
@[simp] theorem State.mapLanesAt_array (f : LaneIx → Lane → Lane) : (s.mapLanesAt f).array = s.array := by unfold State.mapLanesAt; rfl
@[simp] theorem State.mapLanesAt_store (f : LaneIx → Lane → Lane) : (s.mapLanesAt f).store = s.store := by unfold State.mapLanesAt; rfl
@[simp] theorem State.mapLanesAt_ring (f : LaneIx → Lane → Lane) : (s.mapLanesAt f).ring = s.ring := by unfold State.mapLanesAt; rfl
@[simp] theorem State.mapLanesAt_site (f : LaneIx → Lane → Lane) : (s.mapLanesAt f).site = s.site := by unfold State.mapLanesAt; rfl
@[simp] theorem State.mapLanesAt_cipher (f : LaneIx → Lane → Lane) : (s.mapLanesAt f).cipher = s.cipher := by unfold State.mapLanesAt; rfl
@[simp] theorem State.mapLanesAt_cache (f : LaneIx → Lane → Lane) : (s.mapLanesAt f).cache = s.cache := by unfold State.mapLanesAt; rfl
@[simp] theorem State.mapLanesAt_counter (f : LaneIx → Lane → Lane) : (s.mapLanesAt f).counter = s.counter := by unfold State.mapLanesAt; rfl
@[simp] theorem State.mapLanesAt_engine (f : LaneIx → Lane → Lane) : (s.mapLanesAt f).engine = s.engine := by unfold State.mapLanesAt; rfl
@[simp] theorem State.mapLanesAt_protection (f : LaneIx → Lane → Lane) : (s.mapLanesAt f).protection = s.protection := by unfold State.mapLanesAt; rfl
@[simp] theorem State.mapLanesAt_siteCode (f : LaneIx → Lane → Lane) : (s.mapLanesAt f).siteCode = s.siteCode := by unfold State.mapLanesAt; rfl
@[simp] theorem State.mapLanesAt_laneEnable (f : LaneIx → Lane → Lane) : (s.mapLanesAt f).laneEnable = s.laneEnable := by unfold State.mapLanesAt; rfl
@[simp] theorem State.mapLanesAt_monitor (f : LaneIx → Lane → Lane) : (s.mapLanesAt f).monitor = s.monitor := by unfold State.mapLanesAt; rfl
@[simp] theorem State.mapLanesAt_sessionLife (f : LaneIx → Lane → Lane) : (s.mapLanesAt f).sessionLife = s.sessionLife := by unfold State.mapLanesAt; rfl
@[simp] theorem State.mapLanesAt_notes (f : LaneIx → Lane → Lane) : (s.mapLanesAt f).notes = s.notes := by unfold State.mapLanesAt; rfl
@[simp] theorem State.mapLanesAt_draws (f : LaneIx → Lane → Lane) : (s.mapLanesAt f).draws = s.draws := by unfold State.mapLanesAt; rfl
@[simp] theorem State.mapLanesAt_pending (f : LaneIx → Lane → Lane) : (s.mapLanesAt f).pending = s.pending := by unfold State.mapLanesAt; rfl

/-! ### `State.flagLanes` -/

@[simp] theorem State.flagLanes_power (f : LaneFlag) : (s.flagLanes f).power = s.power := by unfold State.flagLanes State.mapLanes; rfl
@[simp] theorem State.flagLanes_rst (f : LaneFlag) : (s.flagLanes f).rst = s.rst := by unfold State.flagLanes State.mapLanes; rfl
@[simp] theorem State.flagLanes_clock (f : LaneFlag) : (s.flagLanes f).clock = s.clock := by unfold State.flagLanes State.mapLanes; rfl
@[simp] theorem State.flagLanes_array (f : LaneFlag) : (s.flagLanes f).array = s.array := by unfold State.flagLanes State.mapLanes; rfl
@[simp] theorem State.flagLanes_store (f : LaneFlag) : (s.flagLanes f).store = s.store := by unfold State.flagLanes State.mapLanes; rfl
@[simp] theorem State.flagLanes_ring (f : LaneFlag) : (s.flagLanes f).ring = s.ring := by unfold State.flagLanes State.mapLanes; rfl
@[simp] theorem State.flagLanes_site (f : LaneFlag) : (s.flagLanes f).site = s.site := by unfold State.flagLanes State.mapLanes; rfl
@[simp] theorem State.flagLanes_cipher (f : LaneFlag) : (s.flagLanes f).cipher = s.cipher := by unfold State.flagLanes State.mapLanes; rfl
@[simp] theorem State.flagLanes_cache (f : LaneFlag) : (s.flagLanes f).cache = s.cache := by unfold State.flagLanes State.mapLanes; rfl
@[simp] theorem State.flagLanes_counter (f : LaneFlag) : (s.flagLanes f).counter = s.counter := by unfold State.flagLanes State.mapLanes; rfl
@[simp] theorem State.flagLanes_engine (f : LaneFlag) : (s.flagLanes f).engine = s.engine := by unfold State.flagLanes State.mapLanes; rfl
@[simp] theorem State.flagLanes_protection (f : LaneFlag) : (s.flagLanes f).protection = s.protection := by unfold State.flagLanes State.mapLanes; rfl
@[simp] theorem State.flagLanes_siteCode (f : LaneFlag) : (s.flagLanes f).siteCode = s.siteCode := by unfold State.flagLanes State.mapLanes; rfl
@[simp] theorem State.flagLanes_laneEnable (f : LaneFlag) : (s.flagLanes f).laneEnable = s.laneEnable := by unfold State.flagLanes State.mapLanes; rfl
@[simp] theorem State.flagLanes_monitor (f : LaneFlag) : (s.flagLanes f).monitor = s.monitor := by unfold State.flagLanes State.mapLanes; rfl
@[simp] theorem State.flagLanes_sessionLife (f : LaneFlag) : (s.flagLanes f).sessionLife = s.sessionLife := by unfold State.flagLanes State.mapLanes; rfl
@[simp] theorem State.flagLanes_notes (f : LaneFlag) : (s.flagLanes f).notes = s.notes := by unfold State.flagLanes State.mapLanes; rfl
@[simp] theorem State.flagLanes_draws (f : LaneFlag) : (s.flagLanes f).draws = s.draws := by unfold State.flagLanes State.mapLanes; rfl
@[simp] theorem State.flagLanes_pending (f : LaneFlag) : (s.flagLanes f).pending = s.pending := by unfold State.flagLanes State.mapLanes; rfl

/-! ### `State.flagSite` -/

@[simp] theorem State.flagSite_power (f : SiteFlag) : (s.flagSite f).power = s.power := by unfold State.flagSite; rfl
@[simp] theorem State.flagSite_rst (f : SiteFlag) : (s.flagSite f).rst = s.rst := by unfold State.flagSite; rfl
@[simp] theorem State.flagSite_clock (f : SiteFlag) : (s.flagSite f).clock = s.clock := by unfold State.flagSite; rfl
@[simp] theorem State.flagSite_array (f : SiteFlag) : (s.flagSite f).array = s.array := by unfold State.flagSite; rfl
@[simp] theorem State.flagSite_store (f : SiteFlag) : (s.flagSite f).store = s.store := by unfold State.flagSite; rfl
@[simp] theorem State.flagSite_ring (f : SiteFlag) : (s.flagSite f).ring = s.ring := by unfold State.flagSite; rfl
@[simp] theorem State.flagSite_lanes (f : SiteFlag) : (s.flagSite f).lanes = s.lanes := by unfold State.flagSite; rfl
@[simp] theorem State.flagSite_site (f : SiteFlag) : (s.flagSite f).site = { s.site with flags := s.site.flags ||| f.bit } := by unfold State.flagSite; rfl
@[simp] theorem State.flagSite_cipher (f : SiteFlag) : (s.flagSite f).cipher = s.cipher := by unfold State.flagSite; rfl
@[simp] theorem State.flagSite_cache (f : SiteFlag) : (s.flagSite f).cache = s.cache := by unfold State.flagSite; rfl
@[simp] theorem State.flagSite_counter (f : SiteFlag) : (s.flagSite f).counter = s.counter := by unfold State.flagSite; rfl
@[simp] theorem State.flagSite_engine (f : SiteFlag) : (s.flagSite f).engine = s.engine := by unfold State.flagSite; rfl
@[simp] theorem State.flagSite_protection (f : SiteFlag) : (s.flagSite f).protection = s.protection := by unfold State.flagSite; rfl
@[simp] theorem State.flagSite_siteCode (f : SiteFlag) : (s.flagSite f).siteCode = s.siteCode := by unfold State.flagSite; rfl
@[simp] theorem State.flagSite_laneEnable (f : SiteFlag) : (s.flagSite f).laneEnable = s.laneEnable := by unfold State.flagSite; rfl
@[simp] theorem State.flagSite_monitor (f : SiteFlag) : (s.flagSite f).monitor = s.monitor := by unfold State.flagSite; rfl
@[simp] theorem State.flagSite_sessionLife (f : SiteFlag) : (s.flagSite f).sessionLife = s.sessionLife := by unfold State.flagSite; rfl
@[simp] theorem State.flagSite_notes (f : SiteFlag) : (s.flagSite f).notes = s.notes := by unfold State.flagSite; rfl
@[simp] theorem State.flagSite_draws (f : SiteFlag) : (s.flagSite f).draws = s.draws := by unfold State.flagSite; rfl
@[simp] theorem State.flagSite_pending (f : SiteFlag) : (s.flagSite f).pending = s.pending := by unfold State.flagSite; rfl

/-! ### `State.setPort` -/

@[simp] theorem State.setPort_power (p : Port) (x : PortUnit) : (s.setPort p x).power = s.power := by cases p <;> rfl
@[simp] theorem State.setPort_rst (p : Port) (x : PortUnit) : (s.setPort p x).rst = s.rst := by cases p <;> rfl
@[simp] theorem State.setPort_clock (p : Port) (x : PortUnit) : (s.setPort p x).clock = s.clock := by cases p <;> rfl
@[simp] theorem State.setPort_array (p : Port) (x : PortUnit) : (s.setPort p x).array = s.array := by cases p <;> rfl
@[simp] theorem State.setPort_store (p : Port) (x : PortUnit) : (s.setPort p x).store = s.store := by cases p <;> rfl
@[simp] theorem State.setPort_ring (p : Port) (x : PortUnit) : (s.setPort p x).ring = s.ring := by cases p <;> rfl
@[simp] theorem State.setPort_cipher (p : Port) (x : PortUnit) : (s.setPort p x).cipher = s.cipher := by cases p <;> rfl
@[simp] theorem State.setPort_cache (p : Port) (x : PortUnit) : (s.setPort p x).cache = s.cache := by cases p <;> rfl
@[simp] theorem State.setPort_counter (p : Port) (x : PortUnit) : (s.setPort p x).counter = s.counter := by cases p <;> rfl
@[simp] theorem State.setPort_engine (p : Port) (x : PortUnit) : (s.setPort p x).engine = s.engine := by cases p <;> rfl
@[simp] theorem State.setPort_protection (p : Port) (x : PortUnit) : (s.setPort p x).protection = s.protection := by cases p <;> rfl
@[simp] theorem State.setPort_siteCode (p : Port) (x : PortUnit) : (s.setPort p x).siteCode = s.siteCode := by cases p <;> rfl
@[simp] theorem State.setPort_laneEnable (p : Port) (x : PortUnit) : (s.setPort p x).laneEnable = s.laneEnable := by cases p <;> rfl
@[simp] theorem State.setPort_monitor (p : Port) (x : PortUnit) : (s.setPort p x).monitor = s.monitor := by cases p <;> rfl
@[simp] theorem State.setPort_sessionLife (p : Port) (x : PortUnit) : (s.setPort p x).sessionLife = s.sessionLife := by cases p <;> rfl
@[simp] theorem State.setPort_notes (p : Port) (x : PortUnit) : (s.setPort p x).notes = s.notes := by cases p <;> rfl
@[simp] theorem State.setPort_draws (p : Port) (x : PortUnit) : (s.setPort p x).draws = s.draws := by cases p <;> rfl
@[simp] theorem State.setPort_pending (p : Port) (x : PortUnit) : (s.setPort p x).pending = s.pending := by cases p <;> rfl

/-! ### `State.answer` -/

@[simp] theorem State.answer_power (p : Port) (r : Option Response) : (s.answer p r).power = s.power := by cases p <;> rfl
@[simp] theorem State.answer_rst (p : Port) (r : Option Response) : (s.answer p r).rst = s.rst := by cases p <;> rfl
@[simp] theorem State.answer_clock (p : Port) (r : Option Response) : (s.answer p r).clock = s.clock := by cases p <;> rfl
@[simp] theorem State.answer_array (p : Port) (r : Option Response) : (s.answer p r).array = s.array := by cases p <;> rfl
@[simp] theorem State.answer_store (p : Port) (r : Option Response) : (s.answer p r).store = s.store := by cases p <;> rfl
@[simp] theorem State.answer_ring (p : Port) (r : Option Response) : (s.answer p r).ring = s.ring := by cases p <;> rfl
@[simp] theorem State.answer_cipher (p : Port) (r : Option Response) : (s.answer p r).cipher = s.cipher := by cases p <;> rfl
@[simp] theorem State.answer_cache (p : Port) (r : Option Response) : (s.answer p r).cache = s.cache := by cases p <;> rfl
@[simp] theorem State.answer_counter (p : Port) (r : Option Response) : (s.answer p r).counter = s.counter := by cases p <;> rfl
@[simp] theorem State.answer_engine (p : Port) (r : Option Response) : (s.answer p r).engine = s.engine := by cases p <;> rfl
@[simp] theorem State.answer_protection (p : Port) (r : Option Response) : (s.answer p r).protection = s.protection := by cases p <;> rfl
@[simp] theorem State.answer_siteCode (p : Port) (r : Option Response) : (s.answer p r).siteCode = s.siteCode := by cases p <;> rfl
@[simp] theorem State.answer_laneEnable (p : Port) (r : Option Response) : (s.answer p r).laneEnable = s.laneEnable := by cases p <;> rfl
@[simp] theorem State.answer_monitor (p : Port) (r : Option Response) : (s.answer p r).monitor = s.monitor := by cases p <;> rfl
@[simp] theorem State.answer_sessionLife (p : Port) (r : Option Response) : (s.answer p r).sessionLife = s.sessionLife := by cases p <;> rfl
@[simp] theorem State.answer_notes (p : Port) (r : Option Response) : (s.answer p r).notes = s.notes := by cases p <;> rfl
@[simp] theorem State.answer_draws (p : Port) (r : Option Response) : (s.answer p r).draws = s.draws := by cases p <;> rfl
@[simp] theorem State.answer_pending (p : Port) (r : Option Response) : (s.answer p r).pending = s.pending := by cases p <;> rfl

/-! ### `State.disarm` -/

@[simp] theorem State.disarm_power (p : Port) : (s.disarm p).power = s.power := by cases p <;> rfl
@[simp] theorem State.disarm_rst (p : Port) : (s.disarm p).rst = s.rst := by cases p <;> rfl
@[simp] theorem State.disarm_clock (p : Port) : (s.disarm p).clock = s.clock := by cases p <;> rfl
@[simp] theorem State.disarm_array (p : Port) : (s.disarm p).array = s.array := by cases p <;> rfl
@[simp] theorem State.disarm_store (p : Port) : (s.disarm p).store = s.store := by cases p <;> rfl
@[simp] theorem State.disarm_ring (p : Port) : (s.disarm p).ring = s.ring := by cases p <;> rfl
@[simp] theorem State.disarm_lanes (p : Port) : (s.disarm p).lanes = s.lanes := by cases p <;> rfl
@[simp] theorem State.disarm_cipher (p : Port) : (s.disarm p).cipher = s.cipher := by cases p <;> rfl
@[simp] theorem State.disarm_cache (p : Port) : (s.disarm p).cache = s.cache := by cases p <;> rfl
@[simp] theorem State.disarm_counter (p : Port) : (s.disarm p).counter = s.counter := by cases p <;> rfl
@[simp] theorem State.disarm_engine (p : Port) : (s.disarm p).engine = s.engine := by cases p <;> rfl
@[simp] theorem State.disarm_protection (p : Port) : (s.disarm p).protection = s.protection := by cases p <;> rfl
@[simp] theorem State.disarm_siteCode (p : Port) : (s.disarm p).siteCode = s.siteCode := by cases p <;> rfl
@[simp] theorem State.disarm_laneEnable (p : Port) : (s.disarm p).laneEnable = s.laneEnable := by cases p <;> rfl
@[simp] theorem State.disarm_monitor (p : Port) : (s.disarm p).monitor = s.monitor := by cases p <;> rfl
@[simp] theorem State.disarm_sessionLife (p : Port) : (s.disarm p).sessionLife = s.sessionLife := by cases p <;> rfl
@[simp] theorem State.disarm_notes (p : Port) : (s.disarm p).notes = s.notes := by cases p <;> rfl
@[simp] theorem State.disarm_draws (p : Port) : (s.disarm p).draws = s.draws := by cases p <;> rfl
@[simp] theorem State.disarm_pending (p : Port) : (s.disarm p).pending = s.pending := by cases p <;> rfl

/-! ### `State.setSlot` -/

@[simp] theorem State.setSlot_power (i : SlotIx) (x : Slot) : (s.setSlot i x).power = s.power := by unfold State.setSlot; rfl
@[simp] theorem State.setSlot_rst (i : SlotIx) (x : Slot) : (s.setSlot i x).rst = s.rst := by unfold State.setSlot; rfl
@[simp] theorem State.setSlot_clock (i : SlotIx) (x : Slot) : (s.setSlot i x).clock = s.clock := by unfold State.setSlot; rfl
@[simp] theorem State.setSlot_array (i : SlotIx) (x : Slot) : (s.setSlot i x).array = s.array := by unfold State.setSlot; rfl
@[simp] theorem State.setSlot_store (i : SlotIx) (x : Slot) : (s.setSlot i x).store = { s.store with slots := s.store.slots.set i x } := by unfold State.setSlot; rfl
@[simp] theorem State.setSlot_ring (i : SlotIx) (x : Slot) : (s.setSlot i x).ring = s.ring := by unfold State.setSlot; rfl
@[simp] theorem State.setSlot_lanes (i : SlotIx) (x : Slot) : (s.setSlot i x).lanes = s.lanes := by unfold State.setSlot; rfl
@[simp] theorem State.setSlot_site (i : SlotIx) (x : Slot) : (s.setSlot i x).site = s.site := by unfold State.setSlot; rfl
@[simp] theorem State.setSlot_cipher (i : SlotIx) (x : Slot) : (s.setSlot i x).cipher = s.cipher := by unfold State.setSlot; rfl
@[simp] theorem State.setSlot_cache (i : SlotIx) (x : Slot) : (s.setSlot i x).cache = s.cache := by unfold State.setSlot; rfl
@[simp] theorem State.setSlot_counter (i : SlotIx) (x : Slot) : (s.setSlot i x).counter = s.counter := by unfold State.setSlot; rfl
@[simp] theorem State.setSlot_engine (i : SlotIx) (x : Slot) : (s.setSlot i x).engine = s.engine := by unfold State.setSlot; rfl
@[simp] theorem State.setSlot_protection (i : SlotIx) (x : Slot) : (s.setSlot i x).protection = s.protection := by unfold State.setSlot; rfl
@[simp] theorem State.setSlot_siteCode (i : SlotIx) (x : Slot) : (s.setSlot i x).siteCode = s.siteCode := by unfold State.setSlot; rfl
@[simp] theorem State.setSlot_laneEnable (i : SlotIx) (x : Slot) : (s.setSlot i x).laneEnable = s.laneEnable := by unfold State.setSlot; rfl
@[simp] theorem State.setSlot_monitor (i : SlotIx) (x : Slot) : (s.setSlot i x).monitor = s.monitor := by unfold State.setSlot; rfl
@[simp] theorem State.setSlot_sessionLife (i : SlotIx) (x : Slot) : (s.setSlot i x).sessionLife = s.sessionLife := by unfold State.setSlot; rfl
@[simp] theorem State.setSlot_notes (i : SlotIx) (x : Slot) : (s.setSlot i x).notes = s.notes := by unfold State.setSlot; rfl
@[simp] theorem State.setSlot_draws (i : SlotIx) (x : Slot) : (s.setSlot i x).draws = s.draws := by unfold State.setSlot; rfl
@[simp] theorem State.setSlot_pending (i : SlotIx) (x : Slot) : (s.setSlot i x).pending = s.pending := by unfold State.setSlot; rfl

/-! ### `State.setNvSlot` -/

@[simp] theorem State.setNvSlot_power (i : SlotIx) (x : NvSlot) : (s.setNvSlot i x).power = s.power := by unfold State.setNvSlot; rfl
@[simp] theorem State.setNvSlot_rst (i : SlotIx) (x : NvSlot) : (s.setNvSlot i x).rst = s.rst := by unfold State.setNvSlot; rfl
@[simp] theorem State.setNvSlot_clock (i : SlotIx) (x : NvSlot) : (s.setNvSlot i x).clock = s.clock := by unfold State.setNvSlot; rfl
@[simp] theorem State.setNvSlot_array (i : SlotIx) (x : NvSlot) : (s.setNvSlot i x).array = { s.array with slots := s.array.slots.set i x } := by unfold State.setNvSlot; rfl
@[simp] theorem State.setNvSlot_store (i : SlotIx) (x : NvSlot) : (s.setNvSlot i x).store = s.store := by unfold State.setNvSlot; rfl
@[simp] theorem State.setNvSlot_ring (i : SlotIx) (x : NvSlot) : (s.setNvSlot i x).ring = s.ring := by unfold State.setNvSlot; rfl
@[simp] theorem State.setNvSlot_lanes (i : SlotIx) (x : NvSlot) : (s.setNvSlot i x).lanes = s.lanes := by unfold State.setNvSlot; rfl
@[simp] theorem State.setNvSlot_site (i : SlotIx) (x : NvSlot) : (s.setNvSlot i x).site = s.site := by unfold State.setNvSlot; rfl
@[simp] theorem State.setNvSlot_cipher (i : SlotIx) (x : NvSlot) : (s.setNvSlot i x).cipher = s.cipher := by unfold State.setNvSlot; rfl
@[simp] theorem State.setNvSlot_cache (i : SlotIx) (x : NvSlot) : (s.setNvSlot i x).cache = s.cache := by unfold State.setNvSlot; rfl
@[simp] theorem State.setNvSlot_counter (i : SlotIx) (x : NvSlot) : (s.setNvSlot i x).counter = s.counter := by unfold State.setNvSlot; rfl
@[simp] theorem State.setNvSlot_engine (i : SlotIx) (x : NvSlot) : (s.setNvSlot i x).engine = s.engine := by unfold State.setNvSlot; rfl
@[simp] theorem State.setNvSlot_protection (i : SlotIx) (x : NvSlot) : (s.setNvSlot i x).protection = s.protection := by unfold State.setNvSlot; rfl
@[simp] theorem State.setNvSlot_siteCode (i : SlotIx) (x : NvSlot) : (s.setNvSlot i x).siteCode = s.siteCode := by unfold State.setNvSlot; rfl
@[simp] theorem State.setNvSlot_laneEnable (i : SlotIx) (x : NvSlot) : (s.setNvSlot i x).laneEnable = s.laneEnable := by unfold State.setNvSlot; rfl
@[simp] theorem State.setNvSlot_monitor (i : SlotIx) (x : NvSlot) : (s.setNvSlot i x).monitor = s.monitor := by unfold State.setNvSlot; rfl
@[simp] theorem State.setNvSlot_sessionLife (i : SlotIx) (x : NvSlot) : (s.setNvSlot i x).sessionLife = s.sessionLife := by unfold State.setNvSlot; rfl
@[simp] theorem State.setNvSlot_notes (i : SlotIx) (x : NvSlot) : (s.setNvSlot i x).notes = s.notes := by unfold State.setNvSlot; rfl
@[simp] theorem State.setNvSlot_draws (i : SlotIx) (x : NvSlot) : (s.setNvSlot i x).draws = s.draws := by unfold State.setNvSlot; rfl
@[simp] theorem State.setNvSlot_pending (i : SlotIx) (x : NvSlot) : (s.setNvSlot i x).pending = s.pending := by unfold State.setNvSlot; rfl

/-! ### `State.mapSlots` -/

@[simp] theorem State.mapSlots_power (f : SlotIx → Slot → Slot) : (s.mapSlots f).power = s.power := by unfold State.mapSlots; rfl
@[simp] theorem State.mapSlots_rst (f : SlotIx → Slot → Slot) : (s.mapSlots f).rst = s.rst := by unfold State.mapSlots; rfl
@[simp] theorem State.mapSlots_clock (f : SlotIx → Slot → Slot) : (s.mapSlots f).clock = s.clock := by unfold State.mapSlots; rfl
@[simp] theorem State.mapSlots_array (f : SlotIx → Slot → Slot) : (s.mapSlots f).array = s.array := by unfold State.mapSlots; rfl
@[simp] theorem State.mapSlots_ring (f : SlotIx → Slot → Slot) : (s.mapSlots f).ring = s.ring := by unfold State.mapSlots; rfl
@[simp] theorem State.mapSlots_lanes (f : SlotIx → Slot → Slot) : (s.mapSlots f).lanes = s.lanes := by unfold State.mapSlots; rfl
@[simp] theorem State.mapSlots_site (f : SlotIx → Slot → Slot) : (s.mapSlots f).site = s.site := by unfold State.mapSlots; rfl
@[simp] theorem State.mapSlots_cipher (f : SlotIx → Slot → Slot) : (s.mapSlots f).cipher = s.cipher := by unfold State.mapSlots; rfl
@[simp] theorem State.mapSlots_cache (f : SlotIx → Slot → Slot) : (s.mapSlots f).cache = s.cache := by unfold State.mapSlots; rfl
@[simp] theorem State.mapSlots_counter (f : SlotIx → Slot → Slot) : (s.mapSlots f).counter = s.counter := by unfold State.mapSlots; rfl
@[simp] theorem State.mapSlots_engine (f : SlotIx → Slot → Slot) : (s.mapSlots f).engine = s.engine := by unfold State.mapSlots; rfl
@[simp] theorem State.mapSlots_protection (f : SlotIx → Slot → Slot) : (s.mapSlots f).protection = s.protection := by unfold State.mapSlots; rfl
@[simp] theorem State.mapSlots_siteCode (f : SlotIx → Slot → Slot) : (s.mapSlots f).siteCode = s.siteCode := by unfold State.mapSlots; rfl
@[simp] theorem State.mapSlots_laneEnable (f : SlotIx → Slot → Slot) : (s.mapSlots f).laneEnable = s.laneEnable := by unfold State.mapSlots; rfl
@[simp] theorem State.mapSlots_monitor (f : SlotIx → Slot → Slot) : (s.mapSlots f).monitor = s.monitor := by unfold State.mapSlots; rfl
@[simp] theorem State.mapSlots_sessionLife (f : SlotIx → Slot → Slot) : (s.mapSlots f).sessionLife = s.sessionLife := by unfold State.mapSlots; rfl
@[simp] theorem State.mapSlots_notes (f : SlotIx → Slot → Slot) : (s.mapSlots f).notes = s.notes := by unfold State.mapSlots; rfl
@[simp] theorem State.mapSlots_draws (f : SlotIx → Slot → Slot) : (s.mapSlots f).draws = s.draws := by unfold State.mapSlots; rfl
@[simp] theorem State.mapSlots_pending (f : SlotIx → Slot → Slot) : (s.mapSlots f).pending = s.pending := by unfold State.mapSlots; rfl

/-! ### `State.mapNvSlots` -/

@[simp] theorem State.mapNvSlots_power (f : SlotIx → NvSlot → NvSlot) : (s.mapNvSlots f).power = s.power := by unfold State.mapNvSlots; rfl
@[simp] theorem State.mapNvSlots_rst (f : SlotIx → NvSlot → NvSlot) : (s.mapNvSlots f).rst = s.rst := by unfold State.mapNvSlots; rfl
@[simp] theorem State.mapNvSlots_clock (f : SlotIx → NvSlot → NvSlot) : (s.mapNvSlots f).clock = s.clock := by unfold State.mapNvSlots; rfl
@[simp] theorem State.mapNvSlots_store (f : SlotIx → NvSlot → NvSlot) : (s.mapNvSlots f).store = s.store := by unfold State.mapNvSlots; rfl
@[simp] theorem State.mapNvSlots_ring (f : SlotIx → NvSlot → NvSlot) : (s.mapNvSlots f).ring = s.ring := by unfold State.mapNvSlots; rfl
@[simp] theorem State.mapNvSlots_lanes (f : SlotIx → NvSlot → NvSlot) : (s.mapNvSlots f).lanes = s.lanes := by unfold State.mapNvSlots; rfl
@[simp] theorem State.mapNvSlots_site (f : SlotIx → NvSlot → NvSlot) : (s.mapNvSlots f).site = s.site := by unfold State.mapNvSlots; rfl
@[simp] theorem State.mapNvSlots_cipher (f : SlotIx → NvSlot → NvSlot) : (s.mapNvSlots f).cipher = s.cipher := by unfold State.mapNvSlots; rfl
@[simp] theorem State.mapNvSlots_cache (f : SlotIx → NvSlot → NvSlot) : (s.mapNvSlots f).cache = s.cache := by unfold State.mapNvSlots; rfl
@[simp] theorem State.mapNvSlots_counter (f : SlotIx → NvSlot → NvSlot) : (s.mapNvSlots f).counter = s.counter := by unfold State.mapNvSlots; rfl
@[simp] theorem State.mapNvSlots_engine (f : SlotIx → NvSlot → NvSlot) : (s.mapNvSlots f).engine = s.engine := by unfold State.mapNvSlots; rfl
@[simp] theorem State.mapNvSlots_protection (f : SlotIx → NvSlot → NvSlot) : (s.mapNvSlots f).protection = s.protection := by unfold State.mapNvSlots; rfl
@[simp] theorem State.mapNvSlots_siteCode (f : SlotIx → NvSlot → NvSlot) : (s.mapNvSlots f).siteCode = s.siteCode := by unfold State.mapNvSlots; rfl
@[simp] theorem State.mapNvSlots_laneEnable (f : SlotIx → NvSlot → NvSlot) : (s.mapNvSlots f).laneEnable = s.laneEnable := by unfold State.mapNvSlots; rfl
@[simp] theorem State.mapNvSlots_monitor (f : SlotIx → NvSlot → NvSlot) : (s.mapNvSlots f).monitor = s.monitor := by unfold State.mapNvSlots; rfl
@[simp] theorem State.mapNvSlots_sessionLife (f : SlotIx → NvSlot → NvSlot) : (s.mapNvSlots f).sessionLife = s.sessionLife := by unfold State.mapNvSlots; rfl
@[simp] theorem State.mapNvSlots_notes (f : SlotIx → NvSlot → NvSlot) : (s.mapNvSlots f).notes = s.notes := by unfold State.mapNvSlots; rfl
@[simp] theorem State.mapNvSlots_draws (f : SlotIx → NvSlot → NvSlot) : (s.mapNvSlots f).draws = s.draws := by unfold State.mapNvSlots; rfl
@[simp] theorem State.mapNvSlots_pending (f : SlotIx → NvSlot → NvSlot) : (s.mapNvSlots f).pending = s.pending := by unfold State.mapNvSlots; rfl

/-! ### `State.purge` -/

@[simp] theorem State.purge_power (gone : Gen → Bool) : (s.purge gone).power = s.power := by unfold State.purge State.mapLanes; rfl
@[simp] theorem State.purge_rst (gone : Gen → Bool) : (s.purge gone).rst = s.rst := by unfold State.purge State.mapLanes; rfl
@[simp] theorem State.purge_clock (gone : Gen → Bool) : (s.purge gone).clock = s.clock := by unfold State.purge State.mapLanes; rfl
@[simp] theorem State.purge_array (gone : Gen → Bool) : (s.purge gone).array = s.array := by unfold State.purge State.mapLanes; rfl
@[simp] theorem State.purge_store (gone : Gen → Bool) : (s.purge gone).store = s.store := by unfold State.purge State.mapLanes; rfl
@[simp] theorem State.purge_ring (gone : Gen → Bool) : (s.purge gone).ring = s.ring := by unfold State.purge State.mapLanes; rfl
@[simp] theorem State.purge_site (gone : Gen → Bool) : (s.purge gone).site = s.site := by unfold State.purge State.mapLanes; rfl
@[simp] theorem State.purge_cipher (gone : Gen → Bool) : (s.purge gone).cipher = s.cipher := by unfold State.purge State.mapLanes; rfl
@[simp] theorem State.purge_cache (gone : Gen → Bool) : (s.purge gone).cache = s.cache.filter fun e => !gone e.generation := by unfold State.purge State.mapLanes; rfl
@[simp] theorem State.purge_counter (gone : Gen → Bool) : (s.purge gone).counter = s.counter := by unfold State.purge State.mapLanes; rfl
@[simp] theorem State.purge_engine (gone : Gen → Bool) : (s.purge gone).engine = s.engine := by unfold State.purge State.mapLanes; rfl
@[simp] theorem State.purge_protection (gone : Gen → Bool) : (s.purge gone).protection = s.protection := by unfold State.purge State.mapLanes; rfl
@[simp] theorem State.purge_siteCode (gone : Gen → Bool) : (s.purge gone).siteCode = s.siteCode := by unfold State.purge State.mapLanes; rfl
@[simp] theorem State.purge_laneEnable (gone : Gen → Bool) : (s.purge gone).laneEnable = s.laneEnable := by unfold State.purge State.mapLanes; rfl
@[simp] theorem State.purge_monitor (gone : Gen → Bool) : (s.purge gone).monitor = s.monitor := by unfold State.purge State.mapLanes; rfl
@[simp] theorem State.purge_sessionLife (gone : Gen → Bool) : (s.purge gone).sessionLife = s.sessionLife := by unfold State.purge State.mapLanes; rfl
@[simp] theorem State.purge_notes (gone : Gen → Bool) : (s.purge gone).notes = s.notes := by unfold State.purge State.mapLanes; rfl
@[simp] theorem State.purge_draws (gone : Gen → Bool) : (s.purge gone).draws = s.draws := by unfold State.purge State.mapLanes; rfl
@[simp] theorem State.purge_pending (gone : Gen → Bool) : (s.purge gone).pending = s.pending := by unfold State.purge State.mapLanes; rfl

/-! ### `State.retireSlots` -/

@[simp] theorem State.retireSlots_power (p : SlotIx → Bool) : (s.retireSlots p).power = s.power := by unfold State.retireSlots State.purge State.mapLanes State.mapSlots; rfl
@[simp] theorem State.retireSlots_rst (p : SlotIx → Bool) : (s.retireSlots p).rst = s.rst := by unfold State.retireSlots State.purge State.mapLanes State.mapSlots; rfl
@[simp] theorem State.retireSlots_clock (p : SlotIx → Bool) : (s.retireSlots p).clock = s.clock := by unfold State.retireSlots State.purge State.mapLanes State.mapSlots; rfl
@[simp] theorem State.retireSlots_array (p : SlotIx → Bool) : (s.retireSlots p).array = s.array := by unfold State.retireSlots State.purge State.mapLanes State.mapSlots; rfl
@[simp] theorem State.retireSlots_ring (p : SlotIx → Bool) : (s.retireSlots p).ring = s.ring := by unfold State.retireSlots State.purge State.mapLanes State.mapSlots; rfl
@[simp] theorem State.retireSlots_site (p : SlotIx → Bool) : (s.retireSlots p).site = s.site := by unfold State.retireSlots State.purge State.mapLanes State.mapSlots; rfl
@[simp] theorem State.retireSlots_cipher (p : SlotIx → Bool) : (s.retireSlots p).cipher = s.cipher := by unfold State.retireSlots State.purge State.mapLanes State.mapSlots; rfl
@[simp] theorem State.retireSlots_counter (p : SlotIx → Bool) : (s.retireSlots p).counter = s.counter := by unfold State.retireSlots State.purge State.mapLanes State.mapSlots; rfl
@[simp] theorem State.retireSlots_engine (p : SlotIx → Bool) : (s.retireSlots p).engine = s.engine := by unfold State.retireSlots State.purge State.mapLanes State.mapSlots; rfl
@[simp] theorem State.retireSlots_protection (p : SlotIx → Bool) : (s.retireSlots p).protection = s.protection := by unfold State.retireSlots State.purge State.mapLanes State.mapSlots; rfl
@[simp] theorem State.retireSlots_siteCode (p : SlotIx → Bool) : (s.retireSlots p).siteCode = s.siteCode := by unfold State.retireSlots State.purge State.mapLanes State.mapSlots; rfl
@[simp] theorem State.retireSlots_laneEnable (p : SlotIx → Bool) : (s.retireSlots p).laneEnable = s.laneEnable := by unfold State.retireSlots State.purge State.mapLanes State.mapSlots; rfl
@[simp] theorem State.retireSlots_monitor (p : SlotIx → Bool) : (s.retireSlots p).monitor = s.monitor := by unfold State.retireSlots State.purge State.mapLanes State.mapSlots; rfl
@[simp] theorem State.retireSlots_sessionLife (p : SlotIx → Bool) : (s.retireSlots p).sessionLife = s.sessionLife := by unfold State.retireSlots State.purge State.mapLanes State.mapSlots; rfl
@[simp] theorem State.retireSlots_notes (p : SlotIx → Bool) : (s.retireSlots p).notes = s.notes := by unfold State.retireSlots State.purge State.mapLanes State.mapSlots; rfl
@[simp] theorem State.retireSlots_draws (p : SlotIx → Bool) : (s.retireSlots p).draws = s.draws := by unfold State.retireSlots State.purge State.mapLanes State.mapSlots; rfl
@[simp] theorem State.retireSlots_pending (p : SlotIx → Bool) : (s.retireSlots p).pending = s.pending := by unfold State.retireSlots State.purge State.mapLanes State.mapSlots; rfl

/-! ### `State.startOp` -/

@[simp] theorem State.startOp_power (op : Operation) (time : Nat) : (s.startOp op time).power = s.power := by unfold State.startOp; rfl
@[simp] theorem State.startOp_rst (op : Operation) (time : Nat) : (s.startOp op time).rst = s.rst := by unfold State.startOp; rfl
@[simp] theorem State.startOp_clock (op : Operation) (time : Nat) : (s.startOp op time).clock = s.clock := by unfold State.startOp; rfl
@[simp] theorem State.startOp_array (op : Operation) (time : Nat) : (s.startOp op time).array = s.array := by unfold State.startOp; rfl
@[simp] theorem State.startOp_store (op : Operation) (time : Nat) : (s.startOp op time).store = s.store := by unfold State.startOp; rfl
@[simp] theorem State.startOp_ring (op : Operation) (time : Nat) : (s.startOp op time).ring = s.ring := by unfold State.startOp; rfl
@[simp] theorem State.startOp_lanes (op : Operation) (time : Nat) : (s.startOp op time).lanes = s.lanes := by unfold State.startOp; rfl
@[simp] theorem State.startOp_site (op : Operation) (time : Nat) : (s.startOp op time).site = s.site := by unfold State.startOp; rfl
@[simp] theorem State.startOp_cipher (op : Operation) (time : Nat) : (s.startOp op time).cipher = s.cipher := by unfold State.startOp; rfl
@[simp] theorem State.startOp_cache (op : Operation) (time : Nat) : (s.startOp op time).cache = s.cache := by unfold State.startOp; rfl
@[simp] theorem State.startOp_counter (op : Operation) (time : Nat) : (s.startOp op time).counter = s.counter := by unfold State.startOp; rfl
@[simp] theorem State.startOp_engine (op : Operation) (time : Nat) : (s.startOp op time).engine = { s.engine with active := some { op := op, remaining := time } } := by unfold State.startOp; rfl
@[simp] theorem State.startOp_protection (op : Operation) (time : Nat) : (s.startOp op time).protection = s.protection := by unfold State.startOp; rfl
@[simp] theorem State.startOp_siteCode (op : Operation) (time : Nat) : (s.startOp op time).siteCode = s.siteCode := by unfold State.startOp; rfl
@[simp] theorem State.startOp_laneEnable (op : Operation) (time : Nat) : (s.startOp op time).laneEnable = s.laneEnable := by unfold State.startOp; rfl
@[simp] theorem State.startOp_monitor (op : Operation) (time : Nat) : (s.startOp op time).monitor = s.monitor := by unfold State.startOp; rfl
@[simp] theorem State.startOp_sessionLife (op : Operation) (time : Nat) : (s.startOp op time).sessionLife = s.sessionLife := by unfold State.startOp; rfl
@[simp] theorem State.startOp_notes (op : Operation) (time : Nat) : (s.startOp op time).notes = s.notes := by unfold State.startOp; rfl
@[simp] theorem State.startOp_draws (op : Operation) (time : Nat) : (s.startOp op time).draws = s.draws := by unfold State.startOp; rfl
@[simp] theorem State.startOp_pending (op : Operation) (time : Nat) : (s.startOp op time).pending = s.pending := by unfold State.startOp; rfl

/-! ### `State.endOp` -/

@[simp] theorem State.endOp_power : (s.endOp).power = s.power := by unfold State.endOp; rfl
@[simp] theorem State.endOp_rst : (s.endOp).rst = s.rst := by unfold State.endOp; rfl
@[simp] theorem State.endOp_clock : (s.endOp).clock = s.clock := by unfold State.endOp; rfl
@[simp] theorem State.endOp_array : (s.endOp).array = s.array := by unfold State.endOp; rfl
@[simp] theorem State.endOp_store : (s.endOp).store = s.store := by unfold State.endOp; rfl
@[simp] theorem State.endOp_ring : (s.endOp).ring = s.ring := by unfold State.endOp; rfl
@[simp] theorem State.endOp_lanes : (s.endOp).lanes = s.lanes := by unfold State.endOp; rfl
@[simp] theorem State.endOp_site : (s.endOp).site = s.site := by unfold State.endOp; rfl
@[simp] theorem State.endOp_cipher : (s.endOp).cipher = s.cipher := by unfold State.endOp; rfl
@[simp] theorem State.endOp_cache : (s.endOp).cache = s.cache := by unfold State.endOp; rfl
@[simp] theorem State.endOp_counter : (s.endOp).counter = s.counter := by unfold State.endOp; rfl
@[simp] theorem State.endOp_engine : (s.endOp).engine = { s.engine with active := none } := by unfold State.endOp; rfl
@[simp] theorem State.endOp_protection : (s.endOp).protection = s.protection := by unfold State.endOp; rfl
@[simp] theorem State.endOp_siteCode : (s.endOp).siteCode = s.siteCode := by unfold State.endOp; rfl
@[simp] theorem State.endOp_laneEnable : (s.endOp).laneEnable = s.laneEnable := by unfold State.endOp; rfl
@[simp] theorem State.endOp_monitor : (s.endOp).monitor = s.monitor := by unfold State.endOp; rfl
@[simp] theorem State.endOp_sessionLife : (s.endOp).sessionLife = s.sessionLife := by unfold State.endOp; rfl
@[simp] theorem State.endOp_notes : (s.endOp).notes = s.notes := by unfold State.endOp; rfl
@[simp] theorem State.endOp_draws : (s.endOp).draws = s.draws := by unfold State.endOp; rfl
@[simp] theorem State.endOp_pending : (s.endOp).pending = s.pending := by unfold State.endOp; rfl

/-! ### `State.spendPermit` -/

@[simp] theorem State.spendPermit_power : (s.spendPermit).power = s.power := by unfold State.spendPermit; rfl
@[simp] theorem State.spendPermit_rst : (s.spendPermit).rst = s.rst := by unfold State.spendPermit; rfl
@[simp] theorem State.spendPermit_clock : (s.spendPermit).clock = s.clock := by unfold State.spendPermit; rfl
@[simp] theorem State.spendPermit_array : (s.spendPermit).array = s.array := by unfold State.spendPermit; rfl
@[simp] theorem State.spendPermit_store : (s.spendPermit).store = s.store := by unfold State.spendPermit; rfl
@[simp] theorem State.spendPermit_ring : (s.spendPermit).ring = s.ring := by unfold State.spendPermit; rfl
@[simp] theorem State.spendPermit_lanes : (s.spendPermit).lanes = s.lanes := by unfold State.spendPermit; rfl
@[simp] theorem State.spendPermit_site : (s.spendPermit).site = s.site := by unfold State.spendPermit; rfl
@[simp] theorem State.spendPermit_cipher : (s.spendPermit).cipher = s.cipher := by unfold State.spendPermit; rfl
@[simp] theorem State.spendPermit_cache : (s.spendPermit).cache = s.cache := by unfold State.spendPermit; rfl
@[simp] theorem State.spendPermit_counter : (s.spendPermit).counter = s.counter := by unfold State.spendPermit; rfl
@[simp] theorem State.spendPermit_engine : (s.spendPermit).engine = { s.engine with permit := false } := by unfold State.spendPermit; rfl
@[simp] theorem State.spendPermit_protection : (s.spendPermit).protection = s.protection := by unfold State.spendPermit; rfl
@[simp] theorem State.spendPermit_siteCode : (s.spendPermit).siteCode = s.siteCode := by unfold State.spendPermit; rfl
@[simp] theorem State.spendPermit_laneEnable : (s.spendPermit).laneEnable = s.laneEnable := by unfold State.spendPermit; rfl
@[simp] theorem State.spendPermit_monitor : (s.spendPermit).monitor = s.monitor := by unfold State.spendPermit; rfl
@[simp] theorem State.spendPermit_sessionLife : (s.spendPermit).sessionLife = s.sessionLife := by unfold State.spendPermit; rfl
@[simp] theorem State.spendPermit_notes : (s.spendPermit).notes = s.notes := by unfold State.spendPermit; rfl
@[simp] theorem State.spendPermit_draws : (s.spendPermit).draws = s.draws := by unfold State.spendPermit; rfl
@[simp] theorem State.spendPermit_pending : (s.spendPermit).pending = s.pending := by unfold State.spendPermit; rfl

/-! ### `State.outcome` -/

@[simp] theorem State.outcome_power (k : OutcomeKind) (g : Target) (c : Code) (good : Bool) : (s.outcome k g c good).power = s.power := by unfold State.outcome State.flagSite; rfl
@[simp] theorem State.outcome_rst (k : OutcomeKind) (g : Target) (c : Code) (good : Bool) : (s.outcome k g c good).rst = s.rst := by unfold State.outcome State.flagSite; rfl
@[simp] theorem State.outcome_clock (k : OutcomeKind) (g : Target) (c : Code) (good : Bool) : (s.outcome k g c good).clock = s.clock := by unfold State.outcome State.flagSite; rfl
@[simp] theorem State.outcome_array (k : OutcomeKind) (g : Target) (c : Code) (good : Bool) : (s.outcome k g c good).array = s.array := by unfold State.outcome State.flagSite; rfl
@[simp] theorem State.outcome_store (k : OutcomeKind) (g : Target) (c : Code) (good : Bool) : (s.outcome k g c good).store = s.store := by unfold State.outcome State.flagSite; rfl
@[simp] theorem State.outcome_ring (k : OutcomeKind) (g : Target) (c : Code) (good : Bool) : (s.outcome k g c good).ring = s.ring := by unfold State.outcome State.flagSite; rfl
@[simp] theorem State.outcome_lanes (k : OutcomeKind) (g : Target) (c : Code) (good : Bool) : (s.outcome k g c good).lanes = s.lanes := by unfold State.outcome State.flagSite; rfl
@[simp] theorem State.outcome_cipher (k : OutcomeKind) (g : Target) (c : Code) (good : Bool) : (s.outcome k g c good).cipher = s.cipher := by unfold State.outcome State.flagSite; rfl
@[simp] theorem State.outcome_cache (k : OutcomeKind) (g : Target) (c : Code) (good : Bool) : (s.outcome k g c good).cache = s.cache := by unfold State.outcome State.flagSite; rfl
@[simp] theorem State.outcome_counter (k : OutcomeKind) (g : Target) (c : Code) (good : Bool) : (s.outcome k g c good).counter = s.counter := by unfold State.outcome State.flagSite; rfl
@[simp] theorem State.outcome_engine (k : OutcomeKind) (g : Target) (c : Code) (good : Bool) : (s.outcome k g c good).engine = { s.engine with lastOutcome := some { kind := k, target := g, code := c } } := by unfold State.outcome State.flagSite; rfl
@[simp] theorem State.outcome_protection (k : OutcomeKind) (g : Target) (c : Code) (good : Bool) : (s.outcome k g c good).protection = s.protection := by unfold State.outcome State.flagSite; rfl
@[simp] theorem State.outcome_siteCode (k : OutcomeKind) (g : Target) (c : Code) (good : Bool) : (s.outcome k g c good).siteCode = s.siteCode := by unfold State.outcome State.flagSite; rfl
@[simp] theorem State.outcome_laneEnable (k : OutcomeKind) (g : Target) (c : Code) (good : Bool) : (s.outcome k g c good).laneEnable = s.laneEnable := by unfold State.outcome State.flagSite; rfl
@[simp] theorem State.outcome_monitor (k : OutcomeKind) (g : Target) (c : Code) (good : Bool) : (s.outcome k g c good).monitor = s.monitor := by unfold State.outcome State.flagSite; rfl
@[simp] theorem State.outcome_sessionLife (k : OutcomeKind) (g : Target) (c : Code) (good : Bool) : (s.outcome k g c good).sessionLife = s.sessionLife := by unfold State.outcome State.flagSite; rfl
@[simp] theorem State.outcome_notes (k : OutcomeKind) (g : Target) (c : Code) (good : Bool) : (s.outcome k g c good).notes = s.notes := by unfold State.outcome State.flagSite; rfl
@[simp] theorem State.outcome_draws (k : OutcomeKind) (g : Target) (c : Code) (good : Bool) : (s.outcome k g c good).draws = s.draws := by unfold State.outcome State.flagSite; rfl
@[simp] theorem State.outcome_pending (k : OutcomeKind) (g : Target) (c : Code) (good : Bool) : (s.outcome k g c good).pending = s.pending := by unfold State.outcome State.flagSite; rfl

/-! ### `State.putSettings` -/

@[simp] theorem State.putSettings_power (r : NvRecord Settings) : (s.putSettings r).power = s.power := by unfold State.putSettings; rfl
@[simp] theorem State.putSettings_rst (r : NvRecord Settings) : (s.putSettings r).rst = s.rst := by unfold State.putSettings; rfl
@[simp] theorem State.putSettings_clock (r : NvRecord Settings) : (s.putSettings r).clock = s.clock := by unfold State.putSettings; rfl
@[simp] theorem State.putSettings_array (r : NvRecord Settings) : (s.putSettings r).array = { s.array with settings := r } := by unfold State.putSettings; rfl
@[simp] theorem State.putSettings_store (r : NvRecord Settings) : (s.putSettings r).store = s.store := by unfold State.putSettings; rfl
@[simp] theorem State.putSettings_ring (r : NvRecord Settings) : (s.putSettings r).ring = s.ring := by unfold State.putSettings; rfl
@[simp] theorem State.putSettings_lanes (r : NvRecord Settings) : (s.putSettings r).lanes = s.lanes := by unfold State.putSettings; rfl
@[simp] theorem State.putSettings_site (r : NvRecord Settings) : (s.putSettings r).site = s.site := by unfold State.putSettings; rfl
@[simp] theorem State.putSettings_cipher (r : NvRecord Settings) : (s.putSettings r).cipher = s.cipher := by unfold State.putSettings; rfl
@[simp] theorem State.putSettings_cache (r : NvRecord Settings) : (s.putSettings r).cache = s.cache := by unfold State.putSettings; rfl
@[simp] theorem State.putSettings_counter (r : NvRecord Settings) : (s.putSettings r).counter = s.counter := by unfold State.putSettings; rfl
@[simp] theorem State.putSettings_engine (r : NvRecord Settings) : (s.putSettings r).engine = s.engine := by unfold State.putSettings; rfl
@[simp] theorem State.putSettings_protection (r : NvRecord Settings) : (s.putSettings r).protection = s.protection := by unfold State.putSettings; rfl
@[simp] theorem State.putSettings_siteCode (r : NvRecord Settings) : (s.putSettings r).siteCode = s.siteCode := by unfold State.putSettings; rfl
@[simp] theorem State.putSettings_laneEnable (r : NvRecord Settings) : (s.putSettings r).laneEnable = s.laneEnable := by unfold State.putSettings; rfl
@[simp] theorem State.putSettings_monitor (r : NvRecord Settings) : (s.putSettings r).monitor = s.monitor := by unfold State.putSettings; rfl
@[simp] theorem State.putSettings_sessionLife (r : NvRecord Settings) : (s.putSettings r).sessionLife = s.sessionLife := by unfold State.putSettings; rfl
@[simp] theorem State.putSettings_notes (r : NvRecord Settings) : (s.putSettings r).notes = s.notes := by unfold State.putSettings; rfl
@[simp] theorem State.putSettings_draws (r : NvRecord Settings) : (s.putSettings r).draws = s.draws := by unfold State.putSettings; rfl
@[simp] theorem State.putSettings_pending (r : NvRecord Settings) : (s.putSettings r).pending = s.pending := by unfold State.putSettings; rfl

/-! ### `State.putGeneration` -/

@[simp] theorem State.putGeneration_power (r : NvRecord GenRecord) : (s.putGeneration r).power = s.power := by unfold State.putGeneration; rfl
@[simp] theorem State.putGeneration_rst (r : NvRecord GenRecord) : (s.putGeneration r).rst = s.rst := by unfold State.putGeneration; rfl
@[simp] theorem State.putGeneration_clock (r : NvRecord GenRecord) : (s.putGeneration r).clock = s.clock := by unfold State.putGeneration; rfl
@[simp] theorem State.putGeneration_array (r : NvRecord GenRecord) : (s.putGeneration r).array = { s.array with generation := r } := by unfold State.putGeneration; rfl
@[simp] theorem State.putGeneration_store (r : NvRecord GenRecord) : (s.putGeneration r).store = s.store := by unfold State.putGeneration; rfl
@[simp] theorem State.putGeneration_ring (r : NvRecord GenRecord) : (s.putGeneration r).ring = s.ring := by unfold State.putGeneration; rfl
@[simp] theorem State.putGeneration_lanes (r : NvRecord GenRecord) : (s.putGeneration r).lanes = s.lanes := by unfold State.putGeneration; rfl
@[simp] theorem State.putGeneration_site (r : NvRecord GenRecord) : (s.putGeneration r).site = s.site := by unfold State.putGeneration; rfl
@[simp] theorem State.putGeneration_cipher (r : NvRecord GenRecord) : (s.putGeneration r).cipher = s.cipher := by unfold State.putGeneration; rfl
@[simp] theorem State.putGeneration_cache (r : NvRecord GenRecord) : (s.putGeneration r).cache = s.cache := by unfold State.putGeneration; rfl
@[simp] theorem State.putGeneration_counter (r : NvRecord GenRecord) : (s.putGeneration r).counter = s.counter := by unfold State.putGeneration; rfl
@[simp] theorem State.putGeneration_engine (r : NvRecord GenRecord) : (s.putGeneration r).engine = s.engine := by unfold State.putGeneration; rfl
@[simp] theorem State.putGeneration_protection (r : NvRecord GenRecord) : (s.putGeneration r).protection = s.protection := by unfold State.putGeneration; rfl
@[simp] theorem State.putGeneration_siteCode (r : NvRecord GenRecord) : (s.putGeneration r).siteCode = s.siteCode := by unfold State.putGeneration; rfl
@[simp] theorem State.putGeneration_laneEnable (r : NvRecord GenRecord) : (s.putGeneration r).laneEnable = s.laneEnable := by unfold State.putGeneration; rfl
@[simp] theorem State.putGeneration_monitor (r : NvRecord GenRecord) : (s.putGeneration r).monitor = s.monitor := by unfold State.putGeneration; rfl
@[simp] theorem State.putGeneration_sessionLife (r : NvRecord GenRecord) : (s.putGeneration r).sessionLife = s.sessionLife := by unfold State.putGeneration; rfl
@[simp] theorem State.putGeneration_notes (r : NvRecord GenRecord) : (s.putGeneration r).notes = s.notes := by unfold State.putGeneration; rfl
@[simp] theorem State.putGeneration_draws (r : NvRecord GenRecord) : (s.putGeneration r).draws = s.draws := by unfold State.putGeneration; rfl
@[simp] theorem State.putGeneration_pending (r : NvRecord GenRecord) : (s.putGeneration r).pending = s.pending := by unfold State.putGeneration; rfl

/-! ### `State.putCounter` -/

@[simp] theorem State.putCounter_power (r : NvRecord Nat) : (s.putCounter r).power = s.power := by unfold State.putCounter; rfl
@[simp] theorem State.putCounter_rst (r : NvRecord Nat) : (s.putCounter r).rst = s.rst := by unfold State.putCounter; rfl
@[simp] theorem State.putCounter_clock (r : NvRecord Nat) : (s.putCounter r).clock = s.clock := by unfold State.putCounter; rfl
@[simp] theorem State.putCounter_array (r : NvRecord Nat) : (s.putCounter r).array = { s.array with counter := r } := by unfold State.putCounter; rfl
@[simp] theorem State.putCounter_store (r : NvRecord Nat) : (s.putCounter r).store = s.store := by unfold State.putCounter; rfl
@[simp] theorem State.putCounter_ring (r : NvRecord Nat) : (s.putCounter r).ring = s.ring := by unfold State.putCounter; rfl
@[simp] theorem State.putCounter_lanes (r : NvRecord Nat) : (s.putCounter r).lanes = s.lanes := by unfold State.putCounter; rfl
@[simp] theorem State.putCounter_site (r : NvRecord Nat) : (s.putCounter r).site = s.site := by unfold State.putCounter; rfl
@[simp] theorem State.putCounter_cipher (r : NvRecord Nat) : (s.putCounter r).cipher = s.cipher := by unfold State.putCounter; rfl
@[simp] theorem State.putCounter_cache (r : NvRecord Nat) : (s.putCounter r).cache = s.cache := by unfold State.putCounter; rfl
@[simp] theorem State.putCounter_counter (r : NvRecord Nat) : (s.putCounter r).counter = s.counter := by unfold State.putCounter; rfl
@[simp] theorem State.putCounter_engine (r : NvRecord Nat) : (s.putCounter r).engine = s.engine := by unfold State.putCounter; rfl
@[simp] theorem State.putCounter_protection (r : NvRecord Nat) : (s.putCounter r).protection = s.protection := by unfold State.putCounter; rfl
@[simp] theorem State.putCounter_siteCode (r : NvRecord Nat) : (s.putCounter r).siteCode = s.siteCode := by unfold State.putCounter; rfl
@[simp] theorem State.putCounter_laneEnable (r : NvRecord Nat) : (s.putCounter r).laneEnable = s.laneEnable := by unfold State.putCounter; rfl
@[simp] theorem State.putCounter_monitor (r : NvRecord Nat) : (s.putCounter r).monitor = s.monitor := by unfold State.putCounter; rfl
@[simp] theorem State.putCounter_sessionLife (r : NvRecord Nat) : (s.putCounter r).sessionLife = s.sessionLife := by unfold State.putCounter; rfl
@[simp] theorem State.putCounter_notes (r : NvRecord Nat) : (s.putCounter r).notes = s.notes := by unfold State.putCounter; rfl
@[simp] theorem State.putCounter_draws (r : NvRecord Nat) : (s.putCounter r).draws = s.draws := by unfold State.putCounter; rfl
@[simp] theorem State.putCounter_pending (r : NvRecord Nat) : (s.putCounter r).pending = s.pending := by unfold State.putCounter; rfl

/-! ### `State.requestReservation` -/

@[simp] theorem State.requestReservation_power : (s.requestReservation).power = s.power := by unfold State.requestReservation; rfl
@[simp] theorem State.requestReservation_rst : (s.requestReservation).rst = s.rst := by unfold State.requestReservation; rfl
@[simp] theorem State.requestReservation_clock : (s.requestReservation).clock = s.clock := by unfold State.requestReservation; rfl
@[simp] theorem State.requestReservation_array : (s.requestReservation).array = s.array := by unfold State.requestReservation; rfl
@[simp] theorem State.requestReservation_store : (s.requestReservation).store = s.store := by unfold State.requestReservation; rfl
@[simp] theorem State.requestReservation_ring : (s.requestReservation).ring = s.ring := by unfold State.requestReservation; rfl
@[simp] theorem State.requestReservation_lanes : (s.requestReservation).lanes = s.lanes := by unfold State.requestReservation; rfl
@[simp] theorem State.requestReservation_site : (s.requestReservation).site = s.site := by unfold State.requestReservation; rfl
@[simp] theorem State.requestReservation_cipher : (s.requestReservation).cipher = s.cipher := by unfold State.requestReservation; rfl
@[simp] theorem State.requestReservation_cache : (s.requestReservation).cache = s.cache := by unfold State.requestReservation; rfl
@[simp] theorem State.requestReservation_counter : (s.requestReservation).counter = { s.counter with reserving := true } := by unfold State.requestReservation; rfl
@[simp] theorem State.requestReservation_protection : (s.requestReservation).protection = s.protection := by unfold State.requestReservation; rfl
@[simp] theorem State.requestReservation_siteCode : (s.requestReservation).siteCode = s.siteCode := by unfold State.requestReservation; rfl
@[simp] theorem State.requestReservation_laneEnable : (s.requestReservation).laneEnable = s.laneEnable := by unfold State.requestReservation; rfl
@[simp] theorem State.requestReservation_monitor : (s.requestReservation).monitor = s.monitor := by unfold State.requestReservation; rfl
@[simp] theorem State.requestReservation_sessionLife : (s.requestReservation).sessionLife = s.sessionLife := by unfold State.requestReservation; rfl
@[simp] theorem State.requestReservation_notes : (s.requestReservation).notes = s.notes := by unfold State.requestReservation; rfl
@[simp] theorem State.requestReservation_draws : (s.requestReservation).draws = s.draws := by unfold State.requestReservation; rfl
@[simp] theorem State.requestReservation_pending : (s.requestReservation).pending = s.pending := by unfold State.requestReservation; rfl

/-! ### `State.report` -/

@[simp] theorem State.report_power : (s.report).power = s.power := by unfold State.report State.mapLanes; rfl
@[simp] theorem State.report_rst : (s.report).rst = s.rst := by unfold State.report State.mapLanes; rfl
@[simp] theorem State.report_clock : (s.report).clock = s.clock := by unfold State.report State.mapLanes; rfl
@[simp] theorem State.report_array : (s.report).array = s.array := by unfold State.report State.mapLanes; rfl
@[simp] theorem State.report_store : (s.report).store = s.store := by unfold State.report State.mapLanes; rfl
@[simp] theorem State.report_ring : (s.report).ring = s.ring := by unfold State.report State.mapLanes; rfl
@[simp] theorem State.report_site : (s.report).site = s.site := by unfold State.report State.mapLanes; rfl
@[simp] theorem State.report_cipher : (s.report).cipher = s.cipher := by unfold State.report State.mapLanes; rfl
@[simp] theorem State.report_cache : (s.report).cache = s.cache := by unfold State.report State.mapLanes; rfl
@[simp] theorem State.report_counter : (s.report).counter = s.counter := by unfold State.report State.mapLanes; rfl
@[simp] theorem State.report_engine : (s.report).engine = s.engine := by unfold State.report State.mapLanes; rfl
@[simp] theorem State.report_protection : (s.report).protection = s.protection := by unfold State.report State.mapLanes; rfl
@[simp] theorem State.report_siteCode : (s.report).siteCode = s.siteCode := by unfold State.report State.mapLanes; rfl
@[simp] theorem State.report_laneEnable : (s.report).laneEnable = s.laneEnable := by unfold State.report State.mapLanes; rfl
@[simp] theorem State.report_monitor : (s.report).monitor = s.monitor := by unfold State.report State.mapLanes; rfl
@[simp] theorem State.report_sessionLife : (s.report).sessionLife = s.sessionLife := by unfold State.report State.mapLanes; rfl
@[simp] theorem State.report_notes : (s.report).notes = s.notes := by unfold State.report State.mapLanes; rfl
@[simp] theorem State.report_draws : (s.report).draws = s.draws := by unfold State.report State.mapLanes; rfl
@[simp] theorem State.report_pending : (s.report).pending = s.pending := by unfold State.report State.mapLanes; rfl

/-! ### `State.discardLane` -/

@[simp] theorem State.discardLane_power (l : LaneIx) : (s.discardLane l).power = s.power := by unfold State.discardLane State.setLane; rfl
@[simp] theorem State.discardLane_rst (l : LaneIx) : (s.discardLane l).rst = s.rst := by unfold State.discardLane State.setLane; rfl
@[simp] theorem State.discardLane_clock (l : LaneIx) : (s.discardLane l).clock = s.clock := by unfold State.discardLane State.setLane; rfl
@[simp] theorem State.discardLane_array (l : LaneIx) : (s.discardLane l).array = s.array := by unfold State.discardLane State.setLane; rfl
@[simp] theorem State.discardLane_store (l : LaneIx) : (s.discardLane l).store = s.store := by unfold State.discardLane State.setLane; rfl
@[simp] theorem State.discardLane_ring (l : LaneIx) : (s.discardLane l).ring = s.ring := by unfold State.discardLane State.setLane; rfl
@[simp] theorem State.discardLane_lanes (l : LaneIx) : (s.discardLane l).lanes = s.lanes.set l (s.lane l).discard := by unfold State.discardLane State.setLane; rfl
@[simp] theorem State.discardLane_site (l : LaneIx) : (s.discardLane l).site = s.site := by unfold State.discardLane State.setLane; rfl
@[simp] theorem State.discardLane_cipher (l : LaneIx) : (s.discardLane l).cipher = s.cipher.detach l := by unfold State.discardLane State.setLane; rfl
@[simp] theorem State.discardLane_cache (l : LaneIx) : (s.discardLane l).cache = s.cache := by unfold State.discardLane State.setLane; rfl
@[simp] theorem State.discardLane_counter (l : LaneIx) : (s.discardLane l).counter = s.counter := by unfold State.discardLane State.setLane; rfl
@[simp] theorem State.discardLane_engine (l : LaneIx) : (s.discardLane l).engine = s.engine := by unfold State.discardLane State.setLane; rfl
@[simp] theorem State.discardLane_protection (l : LaneIx) : (s.discardLane l).protection = s.protection := by unfold State.discardLane State.setLane; rfl
@[simp] theorem State.discardLane_siteCode (l : LaneIx) : (s.discardLane l).siteCode = s.siteCode := by unfold State.discardLane State.setLane; rfl
@[simp] theorem State.discardLane_laneEnable (l : LaneIx) : (s.discardLane l).laneEnable = s.laneEnable := by unfold State.discardLane State.setLane; rfl
@[simp] theorem State.discardLane_monitor (l : LaneIx) : (s.discardLane l).monitor = s.monitor := by unfold State.discardLane State.setLane; rfl
@[simp] theorem State.discardLane_sessionLife (l : LaneIx) : (s.discardLane l).sessionLife = s.sessionLife := by unfold State.discardLane State.setLane; rfl
@[simp] theorem State.discardLane_notes (l : LaneIx) : (s.discardLane l).notes = s.notes := by unfold State.discardLane State.setLane; rfl
@[simp] theorem State.discardLane_draws (l : LaneIx) : (s.discardLane l).draws = s.draws := by unfold State.discardLane State.setLane; rfl
@[simp] theorem State.discardLane_pending (l : LaneIx) : (s.discardLane l).pending = s.pending := by unfold State.discardLane State.setLane; rfl

/-! ### `State.requestGenRecord` -/

@[simp] theorem State.requestGenRecord_power : (s.requestGenRecord).power = s.power := by unfold State.requestGenRecord; rfl
@[simp] theorem State.requestGenRecord_rst : (s.requestGenRecord).rst = s.rst := by unfold State.requestGenRecord; rfl
@[simp] theorem State.requestGenRecord_clock : (s.requestGenRecord).clock = s.clock := by unfold State.requestGenRecord; rfl
@[simp] theorem State.requestGenRecord_array : (s.requestGenRecord).array = s.array := by unfold State.requestGenRecord; rfl
@[simp] theorem State.requestGenRecord_store : (s.requestGenRecord).store = s.store := by unfold State.requestGenRecord; rfl
@[simp] theorem State.requestGenRecord_ring : (s.requestGenRecord).ring = s.ring := by unfold State.requestGenRecord; rfl
@[simp] theorem State.requestGenRecord_lanes : (s.requestGenRecord).lanes = s.lanes := by unfold State.requestGenRecord; rfl
@[simp] theorem State.requestGenRecord_site : (s.requestGenRecord).site = s.site := by unfold State.requestGenRecord; rfl
@[simp] theorem State.requestGenRecord_cipher : (s.requestGenRecord).cipher = s.cipher := by unfold State.requestGenRecord; rfl
@[simp] theorem State.requestGenRecord_cache : (s.requestGenRecord).cache = s.cache := by unfold State.requestGenRecord; rfl
@[simp] theorem State.requestGenRecord_counter : (s.requestGenRecord).counter = s.counter := by unfold State.requestGenRecord; rfl
@[simp] theorem State.requestGenRecord_protection : (s.requestGenRecord).protection = s.protection := by unfold State.requestGenRecord; rfl
@[simp] theorem State.requestGenRecord_siteCode : (s.requestGenRecord).siteCode = s.siteCode := by unfold State.requestGenRecord; rfl
@[simp] theorem State.requestGenRecord_laneEnable : (s.requestGenRecord).laneEnable = s.laneEnable := by unfold State.requestGenRecord; rfl
@[simp] theorem State.requestGenRecord_monitor : (s.requestGenRecord).monitor = s.monitor := by unfold State.requestGenRecord; rfl
@[simp] theorem State.requestGenRecord_sessionLife : (s.requestGenRecord).sessionLife = s.sessionLife := by unfold State.requestGenRecord; rfl
@[simp] theorem State.requestGenRecord_notes : (s.requestGenRecord).notes = s.notes := by unfold State.requestGenRecord; rfl
@[simp] theorem State.requestGenRecord_draws : (s.requestGenRecord).draws = s.draws := by unfold State.requestGenRecord; rfl
@[simp] theorem State.requestGenRecord_pending : (s.requestGenRecord).pending = s.pending := by unfold State.requestGenRecord; rfl

end Sys2Proof.Machine
end

