-- ==== Sys2Proof/Laws/Access.lean ====
section
/-! SUPPORT. What an update leaves alone as it is read slot by slot and lane by lane, for the updates that do not write it; and what
the updates of a slot or of a lane read as afterwards. -/

namespace Sys2Proof.Machine

variable (s : State)

/-! ### The geometry -/

theorem geometry_setSlot (i : SlotIx) (x : Slot) : (s.setSlot i x).store.geometry = s.store.geometry := by
  simp only [State.setSlot_store]
theorem geometry_mapSlots (f : SlotIx → Slot → Slot) : (s.mapSlots f).store.geometry = s.store.geometry := by
  unfold State.mapSlots; rfl
theorem geometry_retireSlots (p : SlotIx → Bool) : (s.retireSlots p).store.geometry = s.store.geometry := by
  unfold State.retireSlots State.purge State.mapLanes State.mapSlots; rfl

/-! ### `State.setLane` -/

@[simp] theorem State.slot_setLane (l : LaneIx) (x : Lane) (i : SlotIx) : (s.setLane l x).slot i = s.slot i := by simp only [State.slot, State.setLane_store]
@[simp] theorem State.nvSlot_setLane (l : LaneIx) (x : Lane) (i : SlotIx) : (s.setLane l x).nvSlot i = s.nvSlot i := by simp only [State.nvSlot, State.setLane_array]
@[simp] theorem State.areaOf_setLane (l : LaneIx) (x : Lane) (i : SlotIx) : (s.setLane l x).areaOf i = s.areaOf i := by simp only [State.areaOf, State.setLane_store]
@[simp] theorem State.inRing_setLane (l : LaneIx) (x : Lane) (i : SlotIx) : (s.setLane l x).inRing i = s.inRing i := by simp only [State.inRing, State.areaOf, State.setLane_store]

/-! ### `State.mapLanes` -/

@[simp] theorem State.slot_mapLanes (f : Lane → Lane) (i : SlotIx) : (s.mapLanes f).slot i = s.slot i := by simp only [State.slot, State.mapLanes_store]
@[simp] theorem State.nvSlot_mapLanes (f : Lane → Lane) (i : SlotIx) : (s.mapLanes f).nvSlot i = s.nvSlot i := by simp only [State.nvSlot, State.mapLanes_array]
@[simp] theorem State.areaOf_mapLanes (f : Lane → Lane) (i : SlotIx) : (s.mapLanes f).areaOf i = s.areaOf i := by simp only [State.areaOf, State.mapLanes_store]
@[simp] theorem State.inRing_mapLanes (f : Lane → Lane) (i : SlotIx) : (s.mapLanes f).inRing i = s.inRing i := by simp only [State.inRing, State.areaOf, State.mapLanes_store]

/-! ### `State.mapLanesAt` -/

@[simp] theorem State.slot_mapLanesAt (f : LaneIx → Lane → Lane) (i : SlotIx) : (s.mapLanesAt f).slot i = s.slot i := by simp only [State.slot, State.mapLanesAt_store]
@[simp] theorem State.nvSlot_mapLanesAt (f : LaneIx → Lane → Lane) (i : SlotIx) : (s.mapLanesAt f).nvSlot i = s.nvSlot i := by simp only [State.nvSlot, State.mapLanesAt_array]
@[simp] theorem State.areaOf_mapLanesAt (f : LaneIx → Lane → Lane) (i : SlotIx) : (s.mapLanesAt f).areaOf i = s.areaOf i := by simp only [State.areaOf, State.mapLanesAt_store]
@[simp] theorem State.inRing_mapLanesAt (f : LaneIx → Lane → Lane) (i : SlotIx) : (s.mapLanesAt f).inRing i = s.inRing i := by simp only [State.inRing, State.areaOf, State.mapLanesAt_store]

/-! ### `State.flagLanes` -/

@[simp] theorem State.slot_flagLanes (f : LaneFlag) (i : SlotIx) : (s.flagLanes f).slot i = s.slot i := by simp only [State.slot, State.flagLanes_store]
@[simp] theorem State.nvSlot_flagLanes (f : LaneFlag) (i : SlotIx) : (s.flagLanes f).nvSlot i = s.nvSlot i := by simp only [State.nvSlot, State.flagLanes_array]
@[simp] theorem State.areaOf_flagLanes (f : LaneFlag) (i : SlotIx) : (s.flagLanes f).areaOf i = s.areaOf i := by simp only [State.areaOf, State.flagLanes_store]
@[simp] theorem State.inRing_flagLanes (f : LaneFlag) (i : SlotIx) : (s.flagLanes f).inRing i = s.inRing i := by simp only [State.inRing, State.areaOf, State.flagLanes_store]

/-! ### `State.flagSite` -/

@[simp] theorem State.slot_flagSite (f : SiteFlag) (i : SlotIx) : (s.flagSite f).slot i = s.slot i := by simp only [State.slot, State.flagSite_store]
@[simp] theorem State.nvSlot_flagSite (f : SiteFlag) (i : SlotIx) : (s.flagSite f).nvSlot i = s.nvSlot i := by simp only [State.nvSlot, State.flagSite_array]
@[simp] theorem State.lane_flagSite (f : SiteFlag) (l : LaneIx) : (s.flagSite f).lane l = s.lane l := by simp only [State.lane, State.flagSite_lanes]
@[simp] theorem State.areaOf_flagSite (f : SiteFlag) (i : SlotIx) : (s.flagSite f).areaOf i = s.areaOf i := by simp only [State.areaOf, State.flagSite_store]
@[simp] theorem State.inRing_flagSite (f : SiteFlag) (i : SlotIx) : (s.flagSite f).inRing i = s.inRing i := by simp only [State.inRing, State.areaOf, State.flagSite_store]

/-! ### `State.setPort` -/

@[simp] theorem State.slot_setPort (p : Port) (x : PortUnit) (i : SlotIx) : (s.setPort p x).slot i = s.slot i := by simp only [State.slot, State.setPort_store]
@[simp] theorem State.nvSlot_setPort (p : Port) (x : PortUnit) (i : SlotIx) : (s.setPort p x).nvSlot i = s.nvSlot i := by simp only [State.nvSlot, State.setPort_array]
@[simp] theorem State.areaOf_setPort (p : Port) (x : PortUnit) (i : SlotIx) : (s.setPort p x).areaOf i = s.areaOf i := by simp only [State.areaOf, State.setPort_store]
@[simp] theorem State.inRing_setPort (p : Port) (x : PortUnit) (i : SlotIx) : (s.setPort p x).inRing i = s.inRing i := by simp only [State.inRing, State.areaOf, State.setPort_store]

/-! ### `State.answer` -/

@[simp] theorem State.slot_answer (p : Port) (r : Option Response) (i : SlotIx) : (s.answer p r).slot i = s.slot i := by simp only [State.slot, State.answer_store]
@[simp] theorem State.nvSlot_answer (p : Port) (r : Option Response) (i : SlotIx) : (s.answer p r).nvSlot i = s.nvSlot i := by simp only [State.nvSlot, State.answer_array]
@[simp] theorem State.areaOf_answer (p : Port) (r : Option Response) (i : SlotIx) : (s.answer p r).areaOf i = s.areaOf i := by simp only [State.areaOf, State.answer_store]
@[simp] theorem State.inRing_answer (p : Port) (r : Option Response) (i : SlotIx) : (s.answer p r).inRing i = s.inRing i := by simp only [State.inRing, State.areaOf, State.answer_store]

/-! ### `State.disarm` -/

@[simp] theorem State.slot_disarm (p : Port) (i : SlotIx) : (s.disarm p).slot i = s.slot i := by simp only [State.slot, State.disarm_store]
@[simp] theorem State.nvSlot_disarm (p : Port) (i : SlotIx) : (s.disarm p).nvSlot i = s.nvSlot i := by simp only [State.nvSlot, State.disarm_array]
@[simp] theorem State.lane_disarm (p : Port) (l : LaneIx) : (s.disarm p).lane l = s.lane l := by simp only [State.lane, State.disarm_lanes]
@[simp] theorem State.areaOf_disarm (p : Port) (i : SlotIx) : (s.disarm p).areaOf i = s.areaOf i := by simp only [State.areaOf, State.disarm_store]
@[simp] theorem State.inRing_disarm (p : Port) (i : SlotIx) : (s.disarm p).inRing i = s.inRing i := by simp only [State.inRing, State.areaOf, State.disarm_store]

/-! ### `State.setSlot` -/

@[simp] theorem State.nvSlot_setSlot (i : SlotIx) (x : Slot) (i' : SlotIx) : (s.setSlot i x).nvSlot i' = s.nvSlot i' := by simp only [State.nvSlot, State.setSlot_array]
@[simp] theorem State.lane_setSlot (i : SlotIx) (x : Slot) (l : LaneIx) : (s.setSlot i x).lane l = s.lane l := by simp only [State.lane, State.setSlot_lanes]
@[simp] theorem State.areaOf_setSlot (i : SlotIx) (x : Slot) (i' : SlotIx) : (s.setSlot i x).areaOf i' = s.areaOf i' := by simp only [State.areaOf, geometry_setSlot]
@[simp] theorem State.inRing_setSlot (i : SlotIx) (x : Slot) (i' : SlotIx) : (s.setSlot i x).inRing i' = s.inRing i' := by simp only [State.inRing, State.areaOf, geometry_setSlot]

/-! ### `State.setNvSlot` -/

@[simp] theorem State.slot_setNvSlot (i : SlotIx) (x : NvSlot) (i' : SlotIx) : (s.setNvSlot i x).slot i' = s.slot i' := by simp only [State.slot, State.setNvSlot_store]
@[simp] theorem State.lane_setNvSlot (i : SlotIx) (x : NvSlot) (l : LaneIx) : (s.setNvSlot i x).lane l = s.lane l := by simp only [State.lane, State.setNvSlot_lanes]
@[simp] theorem State.areaOf_setNvSlot (i : SlotIx) (x : NvSlot) (i' : SlotIx) : (s.setNvSlot i x).areaOf i' = s.areaOf i' := by simp only [State.areaOf, State.setNvSlot_store]
@[simp] theorem State.inRing_setNvSlot (i : SlotIx) (x : NvSlot) (i' : SlotIx) : (s.setNvSlot i x).inRing i' = s.inRing i' := by simp only [State.inRing, State.areaOf, State.setNvSlot_store]

/-! ### `State.mapSlots` -/

@[simp] theorem State.nvSlot_mapSlots (f : SlotIx → Slot → Slot) (i : SlotIx) : (s.mapSlots f).nvSlot i = s.nvSlot i := by simp only [State.nvSlot, State.mapSlots_array]
@[simp] theorem State.lane_mapSlots (f : SlotIx → Slot → Slot) (l : LaneIx) : (s.mapSlots f).lane l = s.lane l := by simp only [State.lane, State.mapSlots_lanes]
@[simp] theorem State.areaOf_mapSlots (f : SlotIx → Slot → Slot) (i : SlotIx) : (s.mapSlots f).areaOf i = s.areaOf i := by simp only [State.areaOf, geometry_mapSlots]
@[simp] theorem State.inRing_mapSlots (f : SlotIx → Slot → Slot) (i : SlotIx) : (s.mapSlots f).inRing i = s.inRing i := by simp only [State.inRing, State.areaOf, geometry_mapSlots]

/-! ### `State.mapNvSlots` -/

@[simp] theorem State.slot_mapNvSlots (f : SlotIx → NvSlot → NvSlot) (i : SlotIx) : (s.mapNvSlots f).slot i = s.slot i := by simp only [State.slot, State.mapNvSlots_store]
@[simp] theorem State.lane_mapNvSlots (f : SlotIx → NvSlot → NvSlot) (l : LaneIx) : (s.mapNvSlots f).lane l = s.lane l := by simp only [State.lane, State.mapNvSlots_lanes]
@[simp] theorem State.areaOf_mapNvSlots (f : SlotIx → NvSlot → NvSlot) (i : SlotIx) : (s.mapNvSlots f).areaOf i = s.areaOf i := by simp only [State.areaOf, State.mapNvSlots_store]
@[simp] theorem State.inRing_mapNvSlots (f : SlotIx → NvSlot → NvSlot) (i : SlotIx) : (s.mapNvSlots f).inRing i = s.inRing i := by simp only [State.inRing, State.areaOf, State.mapNvSlots_store]

/-! ### `State.purge` -/

@[simp] theorem State.slot_purge (gone : Gen → Bool) (i : SlotIx) : (s.purge gone).slot i = s.slot i := by simp only [State.slot, State.purge_store]
@[simp] theorem State.nvSlot_purge (gone : Gen → Bool) (i : SlotIx) : (s.purge gone).nvSlot i = s.nvSlot i := by simp only [State.nvSlot, State.purge_array]
@[simp] theorem State.areaOf_purge (gone : Gen → Bool) (i : SlotIx) : (s.purge gone).areaOf i = s.areaOf i := by simp only [State.areaOf, State.purge_store]
@[simp] theorem State.inRing_purge (gone : Gen → Bool) (i : SlotIx) : (s.purge gone).inRing i = s.inRing i := by simp only [State.inRing, State.areaOf, State.purge_store]

/-! ### `State.retireSlots` -/

@[simp] theorem State.nvSlot_retireSlots (p : SlotIx → Bool) (i : SlotIx) : (s.retireSlots p).nvSlot i = s.nvSlot i := by simp only [State.nvSlot, State.retireSlots_array]
@[simp] theorem State.areaOf_retireSlots (p : SlotIx → Bool) (i : SlotIx) : (s.retireSlots p).areaOf i = s.areaOf i := by simp only [State.areaOf, geometry_retireSlots]
@[simp] theorem State.inRing_retireSlots (p : SlotIx → Bool) (i : SlotIx) : (s.retireSlots p).inRing i = s.inRing i := by simp only [State.inRing, State.areaOf, geometry_retireSlots]

/-! ### `State.startOp` -/

@[simp] theorem State.slot_startOp (op : Operation) (time : Nat) (i : SlotIx) : (s.startOp op time).slot i = s.slot i := by simp only [State.slot, State.startOp_store]
@[simp] theorem State.nvSlot_startOp (op : Operation) (time : Nat) (i : SlotIx) : (s.startOp op time).nvSlot i = s.nvSlot i := by simp only [State.nvSlot, State.startOp_array]
@[simp] theorem State.lane_startOp (op : Operation) (time : Nat) (l : LaneIx) : (s.startOp op time).lane l = s.lane l := by simp only [State.lane, State.startOp_lanes]
@[simp] theorem State.areaOf_startOp (op : Operation) (time : Nat) (i : SlotIx) : (s.startOp op time).areaOf i = s.areaOf i := by simp only [State.areaOf, State.startOp_store]
@[simp] theorem State.inRing_startOp (op : Operation) (time : Nat) (i : SlotIx) : (s.startOp op time).inRing i = s.inRing i := by simp only [State.inRing, State.areaOf, State.startOp_store]

/-! ### `State.endOp` -/

@[simp] theorem State.slot_endOp (i : SlotIx) : (s.endOp).slot i = s.slot i := by simp only [State.slot, State.endOp_store]
@[simp] theorem State.nvSlot_endOp (i : SlotIx) : (s.endOp).nvSlot i = s.nvSlot i := by simp only [State.nvSlot, State.endOp_array]
@[simp] theorem State.lane_endOp (l : LaneIx) : (s.endOp).lane l = s.lane l := by simp only [State.lane, State.endOp_lanes]
@[simp] theorem State.areaOf_endOp (i : SlotIx) : (s.endOp).areaOf i = s.areaOf i := by simp only [State.areaOf, State.endOp_store]
@[simp] theorem State.inRing_endOp (i : SlotIx) : (s.endOp).inRing i = s.inRing i := by simp only [State.inRing, State.areaOf, State.endOp_store]

/-! ### `State.spendPermit` -/

@[simp] theorem State.slot_spendPermit (i : SlotIx) : (s.spendPermit).slot i = s.slot i := by simp only [State.slot, State.spendPermit_store]
@[simp] theorem State.nvSlot_spendPermit (i : SlotIx) : (s.spendPermit).nvSlot i = s.nvSlot i := by simp only [State.nvSlot, State.spendPermit_array]
@[simp] theorem State.lane_spendPermit (l : LaneIx) : (s.spendPermit).lane l = s.lane l := by simp only [State.lane, State.spendPermit_lanes]
@[simp] theorem State.areaOf_spendPermit (i : SlotIx) : (s.spendPermit).areaOf i = s.areaOf i := by simp only [State.areaOf, State.spendPermit_store]
@[simp] theorem State.inRing_spendPermit (i : SlotIx) : (s.spendPermit).inRing i = s.inRing i := by simp only [State.inRing, State.areaOf, State.spendPermit_store]

/-! ### `State.outcome` -/

@[simp] theorem State.slot_outcome (k : OutcomeKind) (g : Target) (c : Code) (good : Bool) (i : SlotIx) : (s.outcome k g c good).slot i = s.slot i := by simp only [State.slot, State.outcome_store]
@[simp] theorem State.nvSlot_outcome (k : OutcomeKind) (g : Target) (c : Code) (good : Bool) (i : SlotIx) : (s.outcome k g c good).nvSlot i = s.nvSlot i := by simp only [State.nvSlot, State.outcome_array]
@[simp] theorem State.lane_outcome (k : OutcomeKind) (g : Target) (c : Code) (good : Bool) (l : LaneIx) : (s.outcome k g c good).lane l = s.lane l := by simp only [State.lane, State.outcome_lanes]
@[simp] theorem State.areaOf_outcome (k : OutcomeKind) (g : Target) (c : Code) (good : Bool) (i : SlotIx) : (s.outcome k g c good).areaOf i = s.areaOf i := by simp only [State.areaOf, State.outcome_store]
@[simp] theorem State.inRing_outcome (k : OutcomeKind) (g : Target) (c : Code) (good : Bool) (i : SlotIx) : (s.outcome k g c good).inRing i = s.inRing i := by simp only [State.inRing, State.areaOf, State.outcome_store]

/-! ### `State.putSettings` -/

@[simp] theorem State.slot_putSettings (r : NvRecord Settings) (i : SlotIx) : (s.putSettings r).slot i = s.slot i := by simp only [State.slot, State.putSettings_store]
@[simp] theorem State.nvSlot_putSettings (r : NvRecord Settings) (i : SlotIx) : (s.putSettings r).nvSlot i = s.nvSlot i := by simp only [State.nvSlot, State.putSettings_array]
@[simp] theorem State.lane_putSettings (r : NvRecord Settings) (l : LaneIx) : (s.putSettings r).lane l = s.lane l := by simp only [State.lane, State.putSettings_lanes]
@[simp] theorem State.areaOf_putSettings (r : NvRecord Settings) (i : SlotIx) : (s.putSettings r).areaOf i = s.areaOf i := by simp only [State.areaOf, State.putSettings_store]
@[simp] theorem State.inRing_putSettings (r : NvRecord Settings) (i : SlotIx) : (s.putSettings r).inRing i = s.inRing i := by simp only [State.inRing, State.areaOf, State.putSettings_store]

/-! ### `State.putGeneration` -/

@[simp] theorem State.slot_putGeneration (r : NvRecord GenRecord) (i : SlotIx) : (s.putGeneration r).slot i = s.slot i := by simp only [State.slot, State.putGeneration_store]
@[simp] theorem State.nvSlot_putGeneration (r : NvRecord GenRecord) (i : SlotIx) : (s.putGeneration r).nvSlot i = s.nvSlot i := by simp only [State.nvSlot, State.putGeneration_array]
@[simp] theorem State.lane_putGeneration (r : NvRecord GenRecord) (l : LaneIx) : (s.putGeneration r).lane l = s.lane l := by simp only [State.lane, State.putGeneration_lanes]
@[simp] theorem State.areaOf_putGeneration (r : NvRecord GenRecord) (i : SlotIx) : (s.putGeneration r).areaOf i = s.areaOf i := by simp only [State.areaOf, State.putGeneration_store]
@[simp] theorem State.inRing_putGeneration (r : NvRecord GenRecord) (i : SlotIx) : (s.putGeneration r).inRing i = s.inRing i := by simp only [State.inRing, State.areaOf, State.putGeneration_store]

/-! ### `State.putCounter` -/

@[simp] theorem State.slot_putCounter (r : NvRecord Nat) (i : SlotIx) : (s.putCounter r).slot i = s.slot i := by simp only [State.slot, State.putCounter_store]
@[simp] theorem State.nvSlot_putCounter (r : NvRecord Nat) (i : SlotIx) : (s.putCounter r).nvSlot i = s.nvSlot i := by simp only [State.nvSlot, State.putCounter_array]
@[simp] theorem State.lane_putCounter (r : NvRecord Nat) (l : LaneIx) : (s.putCounter r).lane l = s.lane l := by simp only [State.lane, State.putCounter_lanes]
@[simp] theorem State.areaOf_putCounter (r : NvRecord Nat) (i : SlotIx) : (s.putCounter r).areaOf i = s.areaOf i := by simp only [State.areaOf, State.putCounter_store]
@[simp] theorem State.inRing_putCounter (r : NvRecord Nat) (i : SlotIx) : (s.putCounter r).inRing i = s.inRing i := by simp only [State.inRing, State.areaOf, State.putCounter_store]

/-! ### `State.requestReservation` -/

@[simp] theorem State.slot_requestReservation (i : SlotIx) : (s.requestReservation).slot i = s.slot i := by simp only [State.slot, State.requestReservation_store]
@[simp] theorem State.nvSlot_requestReservation (i : SlotIx) : (s.requestReservation).nvSlot i = s.nvSlot i := by simp only [State.nvSlot, State.requestReservation_array]
@[simp] theorem State.lane_requestReservation (l : LaneIx) : (s.requestReservation).lane l = s.lane l := by simp only [State.lane, State.requestReservation_lanes]
@[simp] theorem State.areaOf_requestReservation (i : SlotIx) : (s.requestReservation).areaOf i = s.areaOf i := by simp only [State.areaOf, State.requestReservation_store]
@[simp] theorem State.inRing_requestReservation (i : SlotIx) : (s.requestReservation).inRing i = s.inRing i := by simp only [State.inRing, State.areaOf, State.requestReservation_store]

/-! ### `State.report` -/

@[simp] theorem State.slot_report (i : SlotIx) : (s.report).slot i = s.slot i := by simp only [State.slot, State.report_store]
@[simp] theorem State.nvSlot_report (i : SlotIx) : (s.report).nvSlot i = s.nvSlot i := by simp only [State.nvSlot, State.report_array]
@[simp] theorem State.areaOf_report (i : SlotIx) : (s.report).areaOf i = s.areaOf i := by simp only [State.areaOf, State.report_store]
@[simp] theorem State.inRing_report (i : SlotIx) : (s.report).inRing i = s.inRing i := by simp only [State.inRing, State.areaOf, State.report_store]

/-! ### `State.discardLane` -/

@[simp] theorem State.slot_discardLane (l : LaneIx) (i : SlotIx) : (s.discardLane l).slot i = s.slot i := by simp only [State.slot, State.discardLane_store]
@[simp] theorem State.nvSlot_discardLane (l : LaneIx) (i : SlotIx) : (s.discardLane l).nvSlot i = s.nvSlot i := by simp only [State.nvSlot, State.discardLane_array]
@[simp] theorem State.areaOf_discardLane (l : LaneIx) (i : SlotIx) : (s.discardLane l).areaOf i = s.areaOf i := by simp only [State.areaOf, State.discardLane_store]
@[simp] theorem State.inRing_discardLane (l : LaneIx) (i : SlotIx) : (s.discardLane l).inRing i = s.inRing i := by simp only [State.inRing, State.areaOf, State.discardLane_store]

/-! ### `State.requestGenRecord` -/

@[simp] theorem State.slot_requestGenRecord (i : SlotIx) : (s.requestGenRecord).slot i = s.slot i := by simp only [State.slot, State.requestGenRecord_store]
@[simp] theorem State.nvSlot_requestGenRecord (i : SlotIx) : (s.requestGenRecord).nvSlot i = s.nvSlot i := by simp only [State.nvSlot, State.requestGenRecord_array]
@[simp] theorem State.lane_requestGenRecord (l : LaneIx) : (s.requestGenRecord).lane l = s.lane l := by simp only [State.lane, State.requestGenRecord_lanes]
@[simp] theorem State.areaOf_requestGenRecord (i : SlotIx) : (s.requestGenRecord).areaOf i = s.areaOf i := by simp only [State.areaOf, State.requestGenRecord_store]
@[simp] theorem State.inRing_requestGenRecord (i : SlotIx) : (s.requestGenRecord).inRing i = s.inRing i := by simp only [State.inRing, State.areaOf, State.requestGenRecord_store]

/-! ### Reading what was written -/

@[simp] theorem State.slot_setSlot (i j : SlotIx) (x : Slot) : (s.setSlot i x).slot j = if i = j then x else s.slot j := by
  simp only [State.slot, State.setSlot_store, Fin.getElem_fin, Vector.getElem_set, Fin.ext_iff]

@[simp] theorem State.slot_mapSlots (f : SlotIx → Slot → Slot) (i : SlotIx) : (s.mapSlots f).slot i = f i (s.slot i) := by
  simp [State.slot, State.mapSlots]

@[simp] theorem State.nvSlot_setNvSlot (i j : SlotIx) (x : NvSlot) :
    (s.setNvSlot i x).nvSlot j = if i = j then x else s.nvSlot j := by
  simp only [State.nvSlot, State.setNvSlot_array, Fin.getElem_fin, Vector.getElem_set, Fin.ext_iff]

@[simp] theorem State.nvSlot_mapNvSlots (f : SlotIx → NvSlot → NvSlot) (i : SlotIx) :
    (s.mapNvSlots f).nvSlot i = f i (s.nvSlot i) := by
  simp [State.nvSlot, State.mapNvSlots]

@[simp] theorem State.lane_setLane (l k : LaneIx) (x : Lane) : (s.setLane l x).lane k = if l = k then x else s.lane k := by
  simp only [State.lane, State.setLane_lanes, Fin.getElem_fin, Vector.getElem_set, Fin.ext_iff]

@[simp] theorem State.lane_mapLanes (f : Lane → Lane) (l : LaneIx) : (s.mapLanes f).lane l = f (s.lane l) := by
  simp [State.lane, State.mapLanes]

@[simp] theorem State.lane_mapLanesAt (f : LaneIx → Lane → Lane) (l : LaneIx) :
    (s.mapLanesAt f).lane l = f l (s.lane l) := by
  simp [State.lane, State.mapLanesAt]

@[simp] theorem State.lane_flagLanes (f : LaneFlag) (l : LaneIx) : (s.flagLanes f).lane l = (s.lane l).flag f :=
  State.lane_mapLanes ..

@[simp] theorem State.lane_report (l : LaneIx) : s.report.lane l = { s.lane l with counterWait := false } :=
  State.lane_mapLanes ..

@[simp] theorem State.lane_discardLane (l k : LaneIx) :
    (s.discardLane l).lane k = if l = k then (s.lane l).discard else s.lane k := by
  simp only [State.lane, State.discardLane_lanes, Fin.getElem_fin, Vector.getElem_set, Fin.ext_iff]

@[simp] theorem State.lane_purge (gone : Gen → Bool) (l : LaneIx) :
    (s.purge gone).lane l = (s.lane l).loseSessions fun x => gone x.generation :=
  State.lane_mapLanes ..

/-- A retirement of slots writes the slots named and no other (R10). -/
@[simp] theorem State.slot_retireSlots (p : SlotIx → Bool) (i : SlotIx) :
    (s.retireSlots p).slot i = if p i then (s.slot i).retire else s.slot i := by
  unfold State.retireSlots; simp

/-- A retirement closes the sessions of the generations of the ring slots named (R103). -/
@[simp] theorem State.lane_retireSlots (p : SlotIx → Bool) (l : LaneIx) :
    (s.retireSlots p).lane l = (s.lane l).loseSessions fun x => s.generationsOf p x.generation := by
  unfold State.retireSlots; simp

/-- A retirement removes the cache entries of the generations of the ring slots named (R60). -/
@[simp] theorem State.cache_retireSlots (p : SlotIx → Bool) :
    (s.retireSlots p).cache = s.cache.filter fun e => !s.generationsOf p e.generation := by
  unfold State.retireSlots; simp

@[simp] theorem State.port_setPort_self (p : Port) (x : PortUnit) : (s.setPort p x).port p = x := by
  cases p <;> simp [State.setPort, State.port]

@[simp] theorem State.port_answer_self (p : Port) (r : Option Response) :
    (s.answer p r).port p = { s.port p with response := r } := by
  simp [State.answer]

/-- The lanes of a state decide it read lane by lane. -/
theorem State.lanes_ext {t : State} (h : ∀ l, s.lane l = t.lane l) : s.lanes = t.lanes :=
  Vector.ext fun i hi => h ⟨i, hi⟩

/-- The working image of a state decides it read slot by slot. -/
theorem State.slots_ext {t : State} (h : ∀ i, s.slot i = t.slot i) : s.store.slots = t.store.slots :=
  Vector.ext fun i hi => h ⟨i, hi⟩

end Sys2Proof.Machine
end

