-- ==== Sys2Proof/Laws/Time.lean ====
section
/-! SUPPORT. What the passing of time can do: it moves the clocks, the rotation timer, the remaining times of the write engine and
the occupancy of the cipher engine, and nothing else. -/

namespace Sys2Proof.Machine

variable (s : State) (n : Nat)

/-! ### Fields that time leaves alone -/

@[simp] theorem State.elapse_power : (s.elapse n).power = s.power := by unfold State.elapse; split <;> rfl
@[simp] theorem State.wait_power : (s.wait n).power = s.power := State.elapse_power ..
@[simp] theorem State.elapse_rst : (s.elapse n).rst = s.rst := by unfold State.elapse; split <;> rfl
@[simp] theorem State.wait_rst : (s.wait n).rst = s.rst := State.elapse_rst ..
@[simp] theorem State.elapse_array : (s.elapse n).array = s.array := by unfold State.elapse; split <;> rfl
@[simp] theorem State.wait_array : (s.wait n).array = s.array := State.elapse_array ..
@[simp] theorem State.elapse_store : (s.elapse n).store = s.store := by unfold State.elapse; split <;> rfl
@[simp] theorem State.wait_store : (s.wait n).store = s.store := State.elapse_store ..
@[simp] theorem State.elapse_lanes : (s.elapse n).lanes = s.lanes := by unfold State.elapse; split <;> rfl
@[simp] theorem State.wait_lanes : (s.wait n).lanes = s.lanes := State.elapse_lanes ..
@[simp] theorem State.elapse_site : (s.elapse n).site = s.site := by unfold State.elapse; split <;> rfl
@[simp] theorem State.wait_site : (s.wait n).site = s.site := State.elapse_site ..
@[simp] theorem State.elapse_cache : (s.elapse n).cache = s.cache := by unfold State.elapse; split <;> rfl
@[simp] theorem State.wait_cache : (s.wait n).cache = s.cache := State.elapse_cache ..
@[simp] theorem State.elapse_counter : (s.elapse n).counter = s.counter := by unfold State.elapse; split <;> rfl
@[simp] theorem State.wait_counter : (s.wait n).counter = s.counter := State.elapse_counter ..
@[simp] theorem State.elapse_protection : (s.elapse n).protection = s.protection := by unfold State.elapse; split <;> rfl
@[simp] theorem State.wait_protection : (s.wait n).protection = s.protection := State.elapse_protection ..
@[simp] theorem State.elapse_siteCode : (s.elapse n).siteCode = s.siteCode := by unfold State.elapse; split <;> rfl
@[simp] theorem State.wait_siteCode : (s.wait n).siteCode = s.siteCode := State.elapse_siteCode ..
@[simp] theorem State.elapse_laneEnable : (s.elapse n).laneEnable = s.laneEnable := by unfold State.elapse; split <;> rfl
@[simp] theorem State.wait_laneEnable : (s.wait n).laneEnable = s.laneEnable := State.elapse_laneEnable ..
@[simp] theorem State.elapse_monitor : (s.elapse n).monitor = s.monitor := by unfold State.elapse; split <;> rfl
@[simp] theorem State.wait_monitor : (s.wait n).monitor = s.monitor := State.elapse_monitor ..
@[simp] theorem State.elapse_sessionLife : (s.elapse n).sessionLife = s.sessionLife := by unfold State.elapse; split <;> rfl
@[simp] theorem State.wait_sessionLife : (s.wait n).sessionLife = s.sessionLife := State.elapse_sessionLife ..
@[simp] theorem State.elapse_notes : (s.elapse n).notes = s.notes := by unfold State.elapse; split <;> rfl
@[simp] theorem State.wait_notes : (s.wait n).notes = s.notes := State.elapse_notes ..
@[simp] theorem State.elapse_draws : (s.elapse n).draws = s.draws := by unfold State.elapse; split <;> rfl
@[simp] theorem State.wait_draws : (s.wait n).draws = s.draws := State.elapse_draws ..
@[simp] theorem State.elapse_pending : (s.elapse n).pending = s.pending := by unfold State.elapse; split <;> rfl
@[simp] theorem State.wait_pending : (s.wait n).pending = s.pending := State.elapse_pending ..

/-! ### What is read through them -/

@[simp] theorem State.slot_elapse (i : SlotIx) : (s.elapse n).slot i = s.slot i := by simp only [State.slot, State.elapse_store]
@[simp] theorem State.slot_wait (i : SlotIx) : (s.wait n).slot i = s.slot i := by simp only [State.slot, State.wait_store]
@[simp] theorem State.nvSlot_elapse (i : SlotIx) : (s.elapse n).nvSlot i = s.nvSlot i := by simp only [State.nvSlot, State.elapse_array]
@[simp] theorem State.nvSlot_wait (i : SlotIx) : (s.wait n).nvSlot i = s.nvSlot i := by simp only [State.nvSlot, State.wait_array]
@[simp] theorem State.lane_elapse (l : LaneIx) : (s.elapse n).lane l = s.lane l := by simp only [State.lane, State.elapse_lanes]
@[simp] theorem State.lane_wait (l : LaneIx) : (s.wait n).lane l = s.lane l := by simp only [State.lane, State.wait_lanes]
@[simp] theorem State.areaOf_elapse (i : SlotIx) : (s.elapse n).areaOf i = s.areaOf i := by simp only [State.areaOf, State.elapse_store]
@[simp] theorem State.areaOf_wait (i : SlotIx) : (s.wait n).areaOf i = s.areaOf i := by simp only [State.areaOf, State.wait_store]
@[simp] theorem State.inRing_elapse (i : SlotIx) : (s.elapse n).inRing i = s.inRing i := by simp only [State.inRing, State.areaOf, State.elapse_store]
@[simp] theorem State.inRing_wait (i : SlotIx) : (s.wait n).inRing i = s.inRing i := by simp only [State.inRing, State.areaOf, State.wait_store]
@[simp] theorem State.port_elapse (p : Port) : (s.elapse n).port p = s.port p := by cases p <;> simp [State.port]
@[simp] theorem State.port_wait (p : Port) : (s.wait n).port p = s.port p := by cases p <;> simp [State.port]
@[simp] theorem State.lockedSlot_elapse (i : SlotIx) : (s.elapse n).lockedSlot i = s.lockedSlot i := by simp only [State.lockedSlot, State.areaOf, State.elapse_store, State.elapse_protection]
@[simp] theorem State.lockedSlot_wait (i : SlotIx) : (s.wait n).lockedSlot i = s.lockedSlot i := by simp only [State.lockedSlot, State.areaOf, State.wait_store, State.wait_protection]
@[simp] theorem State.protectedSlot_elapse (i : SlotIx) : (s.elapse n).protectedSlot i = s.protectedSlot i := by simp only [State.protectedSlot, State.areaOf, State.elapse_store, State.elapse_protection]
@[simp] theorem State.protectedSlot_wait (i : SlotIx) : (s.wait n).protectedSlot i = s.protectedSlot i := by simp only [State.protectedSlot, State.areaOf, State.wait_store, State.wait_protection]

/-! ### The ring, the engines -/

@[simp] theorem Ring.elapse_live (r : Ring) : (r.elapse n).live = r.live := by unfold Ring.elapse; dsimp only; (repeat' split) <;> rfl
@[simp] theorem Ring.elapse_c (r : Ring) : (r.elapse n).c = r.c := by unfold Ring.elapse; dsimp only; (repeat' split) <;> rfl
@[simp] theorem Ring.elapse_h (r : Ring) : (r.elapse n).h = r.h := by unfold Ring.elapse; dsimp only; (repeat' split) <;> rfl
@[simp] theorem Ring.elapse_back (r : Ring) : (r.elapse n).back = r.back := by unfold Ring.elapse; dsimp only; (repeat' split) <;> rfl
@[simp] theorem Ring.elapse_ahead (r : Ring) : (r.elapse n).ahead = r.ahead := by unfold Ring.elapse; dsimp only; (repeat' split) <;> rfl
@[simp] theorem Ring.elapse_period (r : Ring) : (r.elapse n).period = r.period := by unfold Ring.elapse; dsimp only; (repeat' split) <;> rfl
@[simp] theorem Ring.elapse_rotationPending (r : Ring) : (r.elapse n).rotationPending = r.rotationPending := by unfold Ring.elapse; dsimp only; (repeat' split) <;> rfl
@[simp] theorem State.elapse_ring_live : (s.elapse n).ring.live = s.ring.live := by unfold State.elapse; split <;> first | rfl | exact Ring.elapse_live ..
@[simp] theorem State.wait_ring_live : (s.wait n).ring.live = s.ring.live := State.elapse_ring_live ..
@[simp] theorem State.elapse_ring_c : (s.elapse n).ring.c = s.ring.c := by unfold State.elapse; split <;> first | rfl | exact Ring.elapse_c ..
@[simp] theorem State.wait_ring_c : (s.wait n).ring.c = s.ring.c := State.elapse_ring_c ..
@[simp] theorem State.elapse_ring_h : (s.elapse n).ring.h = s.ring.h := by unfold State.elapse; split <;> first | rfl | exact Ring.elapse_h ..
@[simp] theorem State.wait_ring_h : (s.wait n).ring.h = s.ring.h := State.elapse_ring_h ..
@[simp] theorem State.elapse_ring_back : (s.elapse n).ring.back = s.ring.back := by unfold State.elapse; split <;> first | rfl | exact Ring.elapse_back ..
@[simp] theorem State.wait_ring_back : (s.wait n).ring.back = s.ring.back := State.elapse_ring_back ..
@[simp] theorem State.elapse_ring_ahead : (s.elapse n).ring.ahead = s.ring.ahead := by unfold State.elapse; split <;> first | rfl | exact Ring.elapse_ahead ..
@[simp] theorem State.wait_ring_ahead : (s.wait n).ring.ahead = s.ring.ahead := State.elapse_ring_ahead ..
@[simp] theorem State.elapse_ring_period : (s.elapse n).ring.period = s.ring.period := by unfold State.elapse; split <;> first | rfl | exact Ring.elapse_period ..
@[simp] theorem State.wait_ring_period : (s.wait n).ring.period = s.ring.period := State.elapse_ring_period ..
@[simp] theorem State.elapse_ring_rotationPending : (s.elapse n).ring.rotationPending = s.ring.rotationPending := by unfold State.elapse; split <;> first | rfl | exact Ring.elapse_rotationPending ..
@[simp] theorem State.wait_ring_rotationPending : (s.wait n).ring.rotationPending = s.ring.rotationPending := State.elapse_ring_rotationPending ..
@[simp] theorem State.elapse_engine_held : (s.elapse n).engine.held = s.engine.held := by unfold State.elapse; split <;> rfl
@[simp] theorem State.wait_engine_held : (s.wait n).engine.held = s.engine.held := State.elapse_engine_held ..
@[simp] theorem State.elapse_engine_permit : (s.elapse n).engine.permit = s.engine.permit := by unfold State.elapse; split <;> rfl
@[simp] theorem State.wait_engine_permit : (s.wait n).engine.permit = s.engine.permit := State.elapse_engine_permit ..
@[simp] theorem State.elapse_engine_counterRequest : (s.elapse n).engine.counterRequest = s.engine.counterRequest := by unfold State.elapse; split <;> rfl
@[simp] theorem State.wait_engine_counterRequest : (s.wait n).engine.counterRequest = s.engine.counterRequest := State.elapse_engine_counterRequest ..
@[simp] theorem State.elapse_engine_genRequest : (s.elapse n).engine.genRequest = s.engine.genRequest := by unfold State.elapse; split <;> rfl
@[simp] theorem State.wait_engine_genRequest : (s.wait n).engine.genRequest = s.engine.genRequest := State.elapse_engine_genRequest ..
@[simp] theorem State.elapse_engine_retireRetry : (s.elapse n).engine.retireRetry = s.engine.retireRetry := by unfold State.elapse; split <;> rfl
@[simp] theorem State.wait_engine_retireRetry : (s.wait n).engine.retireRetry = s.engine.retireRetry := State.elapse_engine_retireRetry ..
@[simp] theorem State.elapse_engine_lastOutcome : (s.elapse n).engine.lastOutcome = s.engine.lastOutcome := by unfold State.elapse; split <;> rfl
@[simp] theorem State.wait_engine_lastOutcome : (s.wait n).engine.lastOutcome = s.engine.lastOutcome := State.elapse_engine_lastOutcome ..
@[simp] theorem State.elapse_engine_lastResume : (s.elapse n).engine.lastResume = s.engine.lastResume := by unfold State.elapse; split <;> rfl
@[simp] theorem State.wait_engine_lastResume : (s.wait n).engine.lastResume = s.engine.lastResume := State.elapse_engine_lastResume ..
@[simp] theorem State.elapse_engine_faults : (s.elapse n).engine.faults = s.engine.faults := by unfold State.elapse; split <;> rfl
@[simp] theorem State.wait_engine_faults : (s.wait n).engine.faults = s.engine.faults := State.elapse_engine_faults ..

/-- Time keeps which operation is active. -/
@[simp] theorem State.elapse_active_op : (s.elapse n).engine.active.map (·.op) = s.engine.active.map (·.op) := by
  unfold State.elapse
  split <;> first | rfl | (cases h : s.engine.active <;> simp [WriteEngine.elapse, h])

@[simp] theorem State.wait_active_op : (s.wait n).engine.active.map (·.op) = s.engine.active.map (·.op) :=
  State.elapse_active_op ..

/-- Time keeps what the cipher engine holds, but for the occupancy still to run. -/
theorem State.elapse_work : (s.elapse n).cipher.work = s.cipher.work ∨
    (s.elapse n).cipher.work = s.cipher.work.map fun w => { w with left := w.left - n } := by
  unfold State.elapse; split <;> first | exact .inl rfl | exact .inr rfl

@[simp] theorem State.elapse_lastGranted : (s.elapse n).cipher.lastGranted = s.cipher.lastGranted := by
  unfold State.elapse; split <;> rfl

@[simp] theorem State.wait_lastGranted : (s.wait n).cipher.lastGranted = s.cipher.lastGranted :=
  State.elapse_lastGranted ..

end Sys2Proof.Machine
end

