-- ==== Sys2Proof/Laws/Commands.lean ====
section
/-! SUPPORT. What the examination of a request frame can do (R175): the lemmas that the proofs about port commands cite in place
of `State.command`. -/

namespace Sys2Proof.Machine

variable {α : Type} (s : State) (p : Port) (syncing : Bool) (payload : List Byte)

@[simp] theorem State.power_disarm_port : ((s.disarm p).port p).state = (s.port p).state := by cases p <;> rfl

/-- A port that admits commands examines them. -/
theorem State.Admits.examines {s : State} {p : Port} (h : s.Admits p) : s.Examines p := ⟨h.1, .inr (.inl h.2)⟩

/-- A port that examines frames answers them by the order of R175. -/
theorem State.Examines.unexamined {s : State} {p : Port} (h : s.Examines p) : s.unexamined p = none := by
  obtain ⟨hp, h | h | h⟩ := h <;> simp [State.unexamined, hp, h]

/-- On a READY port a command whose payload has its length takes its own rule, and the port answers what the rule answers. -/
theorem State.command_ready {s : State} {p : Port} (h : s.Admits p) {payload : List Byte} (hl : payload.length ≤ 64)
    (a : α) (rule : α → State → Reply) :
    s.command p syncing payload (some a) rule =
      (rule a (s.disarm p)).1.answer p (some (rule a (s.disarm p)).2) := by
  have hl' : ¬ Config.payloadMax < payload.length := by simp only [Config.payloadMax]; omega
  have hr : (s.port p).state.refusal syncing = none := by rw [h.2]; cases syncing <;> rfl
  simp only [State.command, h.examines.unexamined, if_neg hl', hr]

/-- A SYNC whose payload has its length takes its rule on every port that examines frames. -/
theorem State.command_sync {s : State} {p : Port} (h : s.Examines p) {payload : List Byte} (hl : payload.length ≤ 64)
    (a : α) (rule : α → State → Reply) :
    s.command p true payload (some a) rule =
      (rule a (s.disarm p)).1.answer p (some (rule a (s.disarm p)).2) := by
  have hl' : ¬ Config.payloadMax < payload.length := by simp only [Config.payloadMax]; omega
  simp only [State.command, h.unexamined, if_neg hl', PortState.refusal, if_true]

/-- All that a command frame can do: nothing but a response where frames are not examined, a counted error, a refusal by the
port state, or its own rule. -/
theorem State.command_cases (args : Option α) (rule : α → State → Reply) (P : State → Prop)
    (silent : ∀ r, s.unexamined p = some r → P (s.answer p r))
    (long : P ((s.countError p .frame).answer p none))
    (bad : P (((s.disarm p).countError p .command).answer p (some { status := .badLength, payload := [] })))
    (refused : ∀ c, P ((s.disarm p).answer p (some { status := c, payload := [] })))
    (taken : ∀ a, args = some a → s.power = .running →
      P ((rule a (s.disarm p)).1.answer p (some (rule a (s.disarm p)).2))) :
    P (s.command p syncing payload args rule) := by
  unfold State.command
  split
  · exact silent _ ‹_›
  · rename_i hu
    have hrun : s.power = .running := by
      cases hp : s.power <;> simp_all [State.unexamined]
    split
    · exact long
    · cases args with
      | none => exact bad
      | some a =>
        dsimp only
        split
        · exact refused _
        · exact taken a rfl hrun

end Sys2Proof.Machine
end

