-- ==== Sys2Proof/Laws/Engine.lean ====
section
/-! SUPPORT. What the write engine, the receipt counter and the arbiter can do: the lemmas that proofs cite in place of the
definitions. -/

namespace Sys2Proof.Machine

variable (s : State)

/-! ### The receipt counter -/

/-- Examining the low-water condition requests a reservation, or does nothing (R117). -/
theorem State.examineLowWater_cases (P : State → Prop) (low : s.counter.lowWater = true → P s.requestReservation)
    (high : s.counter.lowWater = false → P s) : P s.examineLowWater := by
  unfold State.examineLowWater
  cases h : s.counter.lowWater
  · exact high h
  · exact low h

/-- All that the issue of a number can do (R116, R117). -/
theorem State.issueNumber_cases (P : State → Prop)
    (last : s.counter.next + 1 = 4294967295 → s.counter.next + 1 = s.counter.limit →
      P (({ s with counter := { s.counter with next := s.counter.next + 1, state := .exhausted } }).flagSite .counter))
    (more : P ({ s with counter := { s.counter with next := s.counter.next + 1 } }).examineLowWater) : P s.issueNumber := by
  unfold State.issueNumber
  dsimp only
  split
  · rename_i h; exact last h.1 h.2
  · exact more

/-! ### Starts and completions -/

/-- All that the start of an internal write can do (R152). -/
theorem State.startInternal_cases (P : State → Prop)
    (counter : ∀ r, s.engine.counterRequest = some r →
      P ({ s with engine := { s.engine with counterRequest := none } }.startOp (.reservation r.limit r.retry) 1000))
    (generation : ∀ r, s.engine.counterRequest = none → s.engine.genRequest = some r →
      P ({ s with engine := { s.engine with genRequest := none } }.startOp (.genRecord r.c r.h r.retry) 1000))
    (marks : s.engine.counterRequest = none → s.engine.genRequest = none → s.retireOutstanding = true →
      P ({ s with engine := { s.engine with retireRetry := false } }.startOp
        (.retireMarks s.retireSet s.engine.retireRetry) 1000))
    (nothing : s.requestOutstanding = false → P s) : P s.startInternal := by
  unfold State.startInternal
  split
  · exact counter _ ‹_›
  · split
    · exact generation _ ‹_› ‹_›
    · split
      · exact marks ‹_› ‹_› ‹_›
      · refine nothing ?_
        rename_i h1 _ h2 h3
        simp_all [State.requestOutstanding]

/-- All that the engine can do once an operation has ended: start an internal write, resume an AUTO hold, or be IDLE (R152, R153). -/
theorem State.proceed_cases (P : State → Prop) (start : s.requestOutstanding = true → P s.startInternal)
    (resume : ∀ op left, s.requestOutstanding = false → s.engine.held = some { op := op, remaining := left, by_ := .auto } →
      P { s with engine := { s.engine with active := some { op := .slotOp op, remaining := left }, held := none } })
    (idle : s.requestOutstanding = false → (∀ x, s.engine.held = some x → x.by_ = .site) → P s) : P s.proceed := by
  unfold State.proceed
  cases hr : s.requestOutstanding
  · simp only [Bool.false_eq_true, if_false]
    split
    · exact resume _ _ hr ‹_›
    · refine idle hr fun x hx => ?_
      rename_i hn
      obtain ⟨op, left, b⟩ := x
      cases b
      · rfl
      · exact absurd hx (hn op left)
  · exact start hr

/-- The active operation cannot be held unless it is a program or an erase. -/
theorem State.holdActive_cases (who : HeldBy) (P : State → Prop)
    (held : ∀ op left, s.engine.active = some { op := .slotOp op, remaining := left } →
      P { s with engine := { s.engine with active := none, held := some { op := op, remaining := left, by_ := who },
                                           restLeft := 20 } })
    (other : (∀ op, s.engine.active.map (·.op) ≠ some (.slotOp op)) → P s) : P (s.holdActive who) := by
  unfold State.holdActive
  split
  · exact held _ _ ‹_›
  · refine other fun op h => ?_
    rename_i hn
    rcases ha : s.engine.active with _ | ⟨o, left⟩
    · simp [ha] at h
    · simp only [ha, Option.map_some, Option.some.injEq] at h
      exact hn op left (h ▸ ha)

/-! ### Settings commands -/

/-- All that a settings command's rule can do: refuse, or clear the permit and begin the settings write (R149). -/
theorem settingsRule_cases (freezes : Bool) (plan : State → SettingsPlan) (P : Reply → Prop) (refused : ∀ c, P (refuse c s))
    (accepted : ∀ c r values, s.engine.permit = true → s.idle = true → s.engine.held = none →
      (freezes = true → s.protection.frozen = false) → plan s = .ok (c, r, values) →
      P (reply .accepted values (s.spendPermit.startOp (.settings c r) 6000))) : P (settingsRule freezes plan s) := by
  unfold settingsRule
  split
  · exact refused _
  · split
    · exact refused _
    · split
      · exact refused _
      · split
        · exact refused _
        · rename_i hp _ he hf _ c r v hv
          refine accepted c r v (by simpa using hp) ?_ ?_ ?_ hv
          · cases h : s.idle <;> simp_all [State.engineCheck]
          · cases hi : s.idle <;> cases h : s.engine.held <;> simp_all [State.engineCheck]
          · cases freezes <;> simp_all

/-! ### Grants -/

/-- A grant to a lane dispatches its head job (R74, R76). -/
theorem execGrant_lane {l : LaneIx} (hp : s.power = .running) (hw : s.cipher.work = none)
    (hn : s.nextGrant = some (.lane l)) : execGrant s = .next ((s.granted (.lane l)).dispatch l) := by
  simp only [execGrant, hp, hw, and_self, if_true, hn]

/-- A grant to the site requester begins the unwrap of its LOAD (R74, R134). -/
theorem execGrant_site (hp : s.power = .running) (hw : s.cipher.work = none) (hn : s.nextGrant = some .site) :
    execGrant s = .next (s.granted .site).grantSite := by
  simp only [execGrant, hp, hw, and_self, if_true, hn]

end Sys2Proof.Machine
end

