-- ==== Sys2Proof/Laws/PerInstr.lean ====
section
/-! SUPPORT. The laws of single commands as syntax, one lemma per constructor of `Instr`: what a request frame of the command
carries fits the table of the ports (R174, R175, R186). -/

namespace Sys2Proof.Laws

open Sys2Proof.Machine

/-- A well-formed command that is a request frame has a code that its port offers and a payload that a length byte can name, and
the port reads that code and payload as this command. -/
def FitsTheTable.Statement (i : Instr) : Prop :=
  i.wellFormed = true → ∀ p code payload, i.request = some (p, code, payload) →
    codeAvailable p code = true ∧ payload.length ≤ 64 ∧ commandOf p code payload = some i

/-- A command that is no request frame of an assigned code fits. -/
theorem FitsTheTable.noRequest {i : Instr} (h : i.request = none) : FitsTheTable.Statement i := by
  intro _ p code payload h'
  rw [h] at h'
  cases h'

/-- A command that is a request frame of an assigned code fits, by its port, its code and its payload. -/
theorem FitsTheTable.ofRequest {i : Instr} {p : Port} {code : Byte} {payload : List Byte}
    (h : i.request = some (p, code, payload)) (available : codeAvailable p code = true)
    (short : i.wellFormed = true → payloadFits payload = true) (read : i.wellFormed = true → commandOf p code payload = some i) :
    FitsTheTable.Statement i := by
  intro hw p' code' payload' h'
  rw [h] at h'
  cases h'
  exact ⟨available, of_decide_eq_true (short hw), read hw⟩

theorem FitsTheTable.powerOn : FitsTheTable.Statement .powerOn :=
  FitsTheTable.noRequest rfl

theorem FitsTheTable.powerLoss : FitsTheTable.Statement .powerLoss :=
  FitsTheTable.noRequest rfl

theorem FitsTheTable.rstAssert : FitsTheTable.Statement .rstAssert :=
  FitsTheTable.noRequest rfl

theorem FitsTheTable.rstRelease : FitsTheTable.Statement .rstRelease :=
  FitsTheTable.noRequest rfl

theorem FitsTheTable.softReset : FitsTheTable.Statement .softReset :=
  FitsTheTable.noRequest rfl

theorem FitsTheTable.startupEnd : FitsTheTable.Statement .startupEnd :=
  FitsTheTable.noRequest rfl

theorem FitsTheTable.wplChange (high : Bool) : FitsTheTable.Statement (.wplChange high) :=
  FitsTheTable.noRequest rfl

theorem FitsTheTable.frameError (port : Port) (how : FrameFault) : FitsTheTable.Statement (.frameError port how) :=
  FitsTheTable.noRequest rfl

theorem FitsTheTable.checkFail (port : Port) : FitsTheTable.Statement (.checkFail port) :=
  FitsTheTable.noRequest rfl

theorem FitsTheTable.unknownCommand (port : Port) (code : Byte) : FitsTheTable.Statement (.unknownCommand port code) :=
  FitsTheTable.noRequest rfl

theorem FitsTheTable.sync (port : Port) (payload : List Byte) : FitsTheTable.Statement (.sync port payload) :=
  FitsTheTable.ofRequest rfl (by cases port <;> rfl) id fun _ => by cases port <;> rfl

theorem FitsTheTable.status (port : Port) (payload : List Byte) : FitsTheTable.Statement (.status port payload) :=
  FitsTheTable.ofRequest rfl (by cases port <;> rfl) id fun _ => by cases port <;> rfl

theorem FitsTheTable.setEvents (port : Port) (payload : List Byte) : FitsTheTable.Statement (.setEvents port payload) :=
  FitsTheTable.ofRequest rfl (by cases port <;> rfl) id fun _ => by cases port <;> rfl

theorem FitsTheTable.ackEvents (port : Port) (payload : List Byte) : FitsTheTable.Statement (.ackEvents port payload) :=
  FitsTheTable.ofRequest rfl (by cases port <;> rfl) id fun _ => by cases port <;> rfl

theorem FitsTheTable.submit (lane : LaneIx) (payload : List Byte) : FitsTheTable.Statement (.submit lane payload) :=
  FitsTheTable.ofRequest rfl rfl id fun _ => rfl

theorem FitsTheTable.fetch (lane : LaneIx) (payload : List Byte) : FitsTheTable.Statement (.fetch lane payload) :=
  FitsTheTable.ofRequest rfl rfl id fun _ => rfl

theorem FitsTheTable.jobLapse (lane : LaneIx) (place : Fin 8) : FitsTheTable.Statement (.jobLapse lane place) :=
  FitsTheTable.noRequest rfl

theorem FitsTheTable.grant : FitsTheTable.Statement .grant :=
  FitsTheTable.noRequest rfl

theorem FitsTheTable.answerCompletion : FitsTheTable.Statement .answerCompletion :=
  FitsTheTable.noRequest rfl

theorem FitsTheTable.verifyCompletion : FitsTheTable.Statement .verifyCompletion :=
  FitsTheTable.noRequest rfl

theorem FitsTheTable.sealCompletion : FitsTheTable.Statement .sealCompletion :=
  FitsTheTable.noRequest rfl

theorem FitsTheTable.unwrapCompletion : FitsTheTable.Statement .unwrapCompletion :=
  FitsTheTable.noRequest rfl

theorem FitsTheTable.sessionExpiry (lane : LaneIx) (entry : EntryIx) : FitsTheTable.Statement (.sessionExpiry lane entry) :=
  FitsTheTable.noRequest rfl

theorem FitsTheTable.permit (payload : List Byte) : FitsTheTable.Statement (.permit payload) :=
  FitsTheTable.ofRequest rfl rfl id fun _ => rfl

theorem FitsTheTable.load (payload : List Byte) : FitsTheTable.Statement (.load payload) :=
  FitsTheTable.ofRequest rfl rfl id fun _ => rfl

theorem FitsTheTable.eraseSlot (payload : List Byte) : FitsTheTable.Statement (.eraseSlot payload) :=
  FitsTheTable.ofRequest rfl rfl id fun _ => rfl

theorem FitsTheTable.eraseBank (payload : List Byte) : FitsTheTable.Statement (.eraseBank payload) :=
  FitsTheTable.ofRequest rfl rfl id fun _ => rfl

theorem FitsTheTable.retire (payload : List Byte) : FitsTheTable.Statement (.retire payload) :=
  FitsTheTable.ofRequest rfl rfl id fun _ => rfl

theorem FitsTheTable.slotInfo (payload : List Byte) : FitsTheTable.Statement (.slotInfo payload) :=
  FitsTheTable.ofRequest rfl rfl id fun _ => rfl

theorem FitsTheTable.suspend (payload : List Byte) : FitsTheTable.Statement (.suspend payload) :=
  FitsTheTable.ofRequest rfl rfl id fun _ => rfl

theorem FitsTheTable.resume (payload : List Byte) : FitsTheTable.Statement (.resume payload) :=
  FitsTheTable.ofRequest rfl rfl id fun _ => rfl

theorem FitsTheTable.advance (payload : List Byte) : FitsTheTable.Statement (.advance payload) :=
  FitsTheTable.ofRequest rfl rfl id fun _ => rfl

theorem FitsTheTable.rotPulseEnd : FitsTheTable.Statement .rotPulseEnd :=
  FitsTheTable.noRequest rfl

theorem FitsTheTable.cancelRotation (payload : List Byte) : FitsTheTable.Statement (.cancelRotation payload) :=
  FitsTheTable.ofRequest rfl rfl id fun _ => rfl

theorem FitsTheTable.rotationTimerExpiry : FitsTheTable.Statement .rotationTimerExpiry :=
  FitsTheTable.noRequest rfl

theorem FitsTheTable.setRotation (payload : List Byte) : FitsTheTable.Statement (.setRotation payload) :=
  FitsTheTable.ofRequest rfl rfl id fun _ => rfl

theorem FitsTheTable.setWindow (payload : List Byte) : FitsTheTable.Statement (.setWindow payload) :=
  FitsTheTable.ofRequest rfl rfl id fun _ => rfl

theorem FitsTheTable.setGeometry (payload : List Byte) : FitsTheTable.Statement (.setGeometry payload) :=
  FitsTheTable.ofRequest rfl rfl id fun _ => rfl

theorem FitsTheTable.setCurrent (payload : List Byte) : FitsTheTable.Statement (.setCurrent payload) :=
  FitsTheTable.ofRequest rfl rfl id fun _ => rfl

theorem FitsTheTable.setCounter (payload : List Byte) : FitsTheTable.Statement (.setCounter payload) :=
  FitsTheTable.ofRequest rfl rfl id fun _ => rfl

theorem FitsTheTable.setSessionLife (payload : List Byte) : FitsTheTable.Statement (.setSessionLife payload) :=
  FitsTheTable.ofRequest rfl rfl id fun _ => rfl

theorem FitsTheTable.setProtectVolatile (payload : List Byte) : FitsTheTable.Statement (.setProtectVolatile payload) :=
  FitsTheTable.ofRequest rfl rfl (fun hw => ((Bool.and_eq_true _ _).mp hw).1)
    fun hw => by simpa [commandOf, siteCommandOf] using ((Bool.and_eq_true _ _).mp hw).2

theorem FitsTheTable.setProtectNv (payload : List Byte) : FitsTheTable.Statement (.setProtectNv payload) :=
  FitsTheTable.ofRequest rfl rfl (fun hw => ((Bool.and_eq_true _ _).mp hw).1)
    fun hw => by simpa [commandOf, siteCommandOf] using ((Bool.and_eq_true _ _).mp hw).2

theorem FitsTheTable.lockArea (payload : List Byte) : FitsTheTable.Statement (.lockArea payload) :=
  FitsTheTable.ofRequest rfl rfl id fun _ => rfl

theorem FitsTheTable.setFreeze (payload : List Byte) : FitsTheTable.Statement (.setFreeze payload) :=
  FitsTheTable.ofRequest rfl rfl id fun _ => rfl

theorem FitsTheTable.setSite (payload : List Byte) : FitsTheTable.Statement (.setSite payload) :=
  FitsTheTable.ofRequest rfl rfl id fun _ => rfl

theorem FitsTheTable.setLanes (payload : List Byte) : FitsTheTable.Statement (.setLanes payload) :=
  FitsTheTable.ofRequest rfl rfl id fun _ => rfl

theorem FitsTheTable.setPortMonitor (payload : List Byte) : FitsTheTable.Statement (.setPortMonitor payload) :=
  FitsTheTable.ofRequest rfl rfl id fun _ => rfl

theorem FitsTheTable.readCounts (payload : List Byte) : FitsTheTable.Statement (.readCounts payload) :=
  FitsTheTable.ofRequest rfl rfl id fun _ => rfl

theorem FitsTheTable.clearCounts (payload : List Byte) : FitsTheTable.Statement (.clearCounts payload) :=
  FitsTheTable.ofRequest rfl rfl id fun _ => rfl

theorem FitsTheTable.resetArm (payload : List Byte) : FitsTheTable.Statement (.resetArm payload) :=
  FitsTheTable.ofRequest rfl rfl id fun _ => rfl

theorem FitsTheTable.reset (payload : List Byte) : FitsTheTable.Statement (.reset payload) :=
  FitsTheTable.ofRequest rfl rfl id fun _ => rfl

theorem FitsTheTable.programComplete (verified : Bool) : FitsTheTable.Statement (.programComplete verified) :=
  FitsTheTable.noRequest rfl

theorem FitsTheTable.eraseComplete (failed : List SlotIx) : FitsTheTable.Statement (.eraseComplete failed) :=
  FitsTheTable.noRequest rfl

theorem FitsTheTable.setRotationComplete (verified : Bool) : FitsTheTable.Statement (.setRotationComplete verified) :=
  FitsTheTable.noRequest rfl

theorem FitsTheTable.setWindowComplete (verified : Bool) : FitsTheTable.Statement (.setWindowComplete verified) :=
  FitsTheTable.noRequest rfl

theorem FitsTheTable.setGeometryComplete (verified : Bool) : FitsTheTable.Statement (.setGeometryComplete verified) :=
  FitsTheTable.noRequest rfl

theorem FitsTheTable.setProtectNvComplete (verified : Bool) : FitsTheTable.Statement (.setProtectNvComplete verified) :=
  FitsTheTable.noRequest rfl

theorem FitsTheTable.lockAreaComplete (recordVerified cellVerified : Bool) : FitsTheTable.Statement (.lockAreaComplete recordVerified cellVerified) :=
  FitsTheTable.noRequest rfl

theorem FitsTheTable.setFreezeComplete (verified : Bool) : FitsTheTable.Statement (.setFreezeComplete verified) :=
  FitsTheTable.noRequest rfl

theorem FitsTheTable.setSiteComplete (verified : Bool) : FitsTheTable.Statement (.setSiteComplete verified) :=
  FitsTheTable.noRequest rfl

theorem FitsTheTable.setLanesComplete (verified : Bool) : FitsTheTable.Statement (.setLanesComplete verified) :=
  FitsTheTable.noRequest rfl

theorem FitsTheTable.setCurrentComplete (verified : Bool) : FitsTheTable.Statement (.setCurrentComplete verified) :=
  FitsTheTable.noRequest rfl

theorem FitsTheTable.setCounterComplete (verified : Bool) : FitsTheTable.Statement (.setCounterComplete verified) :=
  FitsTheTable.noRequest rfl

theorem FitsTheTable.genRecordComplete (verified : Bool) : FitsTheTable.Statement (.genRecordComplete verified) :=
  FitsTheTable.noRequest rfl

theorem FitsTheTable.reservationComplete (verified : Bool) : FitsTheTable.Statement (.reservationComplete verified) :=
  FitsTheTable.noRequest rfl

theorem FitsTheTable.retireMarkComplete (verified : Bool) : FitsTheTable.Statement (.retireMarkComplete verified) :=
  FitsTheTable.noRequest rfl

theorem FitsTheTable.internalWriteStart : FitsTheTable.Statement .internalWriteStart :=
  FitsTheTable.noRequest rfl

theorem FitsTheTable.arrayAtRest : FitsTheTable.Statement .arrayAtRest :=
  FitsTheTable.noRequest rfl

end Sys2Proof.Laws
end

