-- ==== Sys2Proof/Laws/Ring.lean ====
section
/-! SUPPORT. What the closing of sessions, the purge, the retirement of slots, the alignment check and the advance can do. -/

namespace Sys2Proof.Machine

variable (s : State)

/-! ### Sessions -/

/-- The sessions of a lane after it has lost some: those of which `p` holds are closed, and the serials stay. -/
theorem Lane.loseSessions_sessions (x : Lane) (p : Session → Bool) (e : EntryIx) :
    (x.loseSessions p).sessions[e] = (x.sessions[e]).closeIf p := by
  have hk : ∀ e : EntryIx, (x.closeEntries p).sessions[e] = (x.sessions[e]).closeIf p := by
    intro e; simp [Lane.closeEntries]
  unfold Lane.loseSessions
  split
  · rw [← hk e]; unfold Lane.flag; split <;> rfl
  · rename_i h
    have hne : Entry.holds p x.sessions[e] = false := by
      rw [Bool.not_eq_true, List.any_eq_false] at h
      have := h x.sessions[e] (by simp)
      simpa using this
    unfold Entry.closeIf Entry.holds at *
    cases hs : (x.sessions[e]).session <;> simp_all

/-- A lane none of whose sessions is named loses nothing. -/
theorem Lane.loseSessions_none (x : Lane) (p : Session → Bool)
    (h : ∀ (e : EntryIx) (y : Session), (x.sessions[e]).session = some y → p y = false) : x.loseSessions p = x := by
  unfold Lane.loseSessions
  rw [if_neg]
  rw [Bool.not_eq_true, List.any_eq_false]
  intro e he
  obtain ⟨i, hi, rfl⟩ := List.mem_iff_getElem.1 he
  have hi' : i < 4 := by simpa using hi
  have := h ⟨i, hi'⟩
  simp only [Entry.holds, Vector.getElem_toList]
  split
  · simpa using this _ (by assumption)
  · simp

/-- Losing sessions touches the sessions of a lane and its flags alone. -/
theorem Lane.loseSessions_frame (x : Lane) (p : Session → Bool) :
    x.loseSessions p = { x with sessions := (x.loseSessions p).sessions, flags := (x.loseSessions p).flags } := by
  unfold Lane.loseSessions Lane.flag Lane.closeEntries
  (repeat' split) <;> rfl

/-! ### Retirement and the alignment check -/

/-- Retiring slots touches their records in the working image, the cache and the lanes alone (R10). -/
theorem State.retireSlots_frame (p : SlotIx → Bool) :
    s.retireSlots p = { s with store := (s.retireSlots p).store, cache := (s.retireSlots p).cache,
                               lanes := (s.retireSlots p).lanes } := by
  unfold State.retireSlots State.purge State.mapSlots State.mapLanes; rfl

/-- The alignment check touches the working image, the cache and the lanes alone (R28). -/
theorem State.alignmentCheck_frame :
    s.alignmentCheck = { s with store := s.alignmentCheck.store, cache := s.alignmentCheck.cache,
                                lanes := s.alignmentCheck.lanes } := by
  unfold State.alignmentCheck
  split
  · exact State.retireSlots_frame ..
  · rfl

/-- What the alignment check makes of a slot (R28). -/
theorem State.alignmentCheck_slot (i : SlotIx) :
    s.alignmentCheck.slot i = if s.ring.live = true ∧ s.misaligned i = true then (s.slot i).retire else s.slot i := by
  unfold State.alignmentCheck
  cases hl : s.ring.live
  · simp
  · simp only [if_true, State.slot_retireSlots, true_and]

/-- After the alignment check of a LIVE ring every LOADED ring slot holds the generation of its position (R28). -/
theorem State.alignmentCheck_aligned (hl : s.ring.live = true) (i : SlotIx) (hr : s.inRing i = true)
    (h : (s.alignmentCheck.slot i).state = .loaded) : s.aligned i = true ∧ s.alignmentCheck.slot i = s.slot i := by
  rw [State.alignmentCheck_slot] at h ⊢
  cases hm : s.misaligned i
  · rw [if_neg (by simp [hm])] at h ⊢
    refine ⟨?_, rfl⟩
    simpa [State.misaligned, hr, h] using hm
  · rw [if_pos ⟨hl, hm⟩] at h
    simp [Slot.retire] at h

/-- With the ring UNSET no alignment check runs (R23). -/
theorem State.alignmentCheck_unset (hl : s.ring.live = false) : s.alignmentCheck = s := by
  simp [State.alignmentCheck, hl]

/-! ### The advance -/

/-- The ring after an advance (R31). -/
theorem State.advance_ring : s.advance.ring =
    { s.ring with c := s.ring.c + 1, h := (s.ring.h + 1) % s.store.geometry.ring, remaining := s.ring.period,
                  secondRun := 0, rotationPending := false } := by
  cases hl : s.ring.live <;> simp only [State.advance, State.alignmentCheck, hl] <;> rfl

/-- The generation-record request that an advance leaves (R31, R45). -/
theorem State.advance_genRequest : s.advance.engine.genRequest =
    some { c := s.ring.c + 1, h := (s.ring.h + 1) % s.store.geometry.ring,
           retry := match s.engine.genRequest with | some r => r.retry | none => false } := by
  cases hl : s.ring.live <;> simp only [State.advance, State.alignmentCheck, hl] <;> rfl

/-- ROT and ROTATED after an advance (R31 to R33). -/
theorem State.advance_tells : s.advance.clock.rotLeft = 2 ∧ s.advance.site.flags = s.site.flags ||| SiteFlag.rotated.bit := by
  cases hl : s.ring.live <;> simp only [State.advance, State.alignmentCheck, hl] <;> exact ⟨rfl, rfl⟩

end Sys2Proof.Machine
end

