-- ==== Sys2Proof/Laws/Supply.lean ====
section
/-! SUPPORT. What a start-up, a reset and a loss of power leave: one lemma a field, which the proofs about the supply and the RST
line cite in place of `State.startUp`, `State.abandon` and `State.unpowered` (R159, R184, R185). -/

namespace Sys2Proof.Machine

variable (s : State)

/-! ### The examination of the low-water condition -/

/-- Examining the low-water condition touches the counter and the write engine alone (R117). -/
theorem State.examineLowWater_frame :
    s.examineLowWater = { s with counter := s.examineLowWater.counter, engine := s.examineLowWater.engine } := by
  unfold State.examineLowWater State.requestReservation
  split <;> rfl

/-! ### Start-up -/

/-- A start-up is its base, with what the alignment check and the low-water condition change in it (R185). -/
theorem State.startUp_keeps {α : Sort _} (f : State → α) (soft : Bool)
    (h : ∀ (t : State) store lanes cache counter engine,
      f { t with store := store, lanes := lanes, cache := cache, counter := counter, engine := engine } = f t) :
    ∃ base : State, s.startUp soft = base.alignmentCheck.examineLowWater ∧ f (s.startUp soft) = f base ∧
      base.power = .starting ∧ base.rst = s.rst ∧ base.array = s.array ∧ base.pending = s.pending ∧
      base.clock = { time := 0, tenths := 0, startupLeft := 4000, rotLeft := 0 } ∧
      base.cipher = { work := none, lastGranted := .site } ∧ base.notes.soft = soft ∧
      base.monitor = (if soft then s.monitor else Monitor.initial) ∧
      base.sessionLife = (if soft then s.sessionLife else 40) ∧ base.protection.wpl = s.protection.wpl := by
  refine ⟨_, rfl, ?_, rfl, rfl, rfl, rfl, rfl, rfl, rfl, rfl, rfl, rfl⟩
  unfold State.startUp
  extract_lets set ring counter slots base
  rw [State.examineLowWater_frame, State.alignmentCheck_frame]
  exact h base _ _ _ _ _

section
variable (soft : Bool)

@[simp] theorem State.startUp_power : (s.startUp soft).power = .starting := by
  obtain ⟨b, -, h, hb⟩ := s.startUp_keeps State.power soft (fun _ _ _ _ _ _ => rfl); rw [h, hb.1]
@[simp] theorem State.startUp_rst : (s.startUp soft).rst = s.rst := by
  obtain ⟨b, -, h, hb⟩ := s.startUp_keeps State.rst soft (fun _ _ _ _ _ _ => rfl); rw [h, hb.2.1]
@[simp] theorem State.startUp_array : (s.startUp soft).array = s.array := by
  obtain ⟨b, -, h, hb⟩ := s.startUp_keeps State.array soft (fun _ _ _ _ _ _ => rfl); rw [h, hb.2.2.1]
@[simp] theorem State.startUp_pending : (s.startUp soft).pending = s.pending := by
  obtain ⟨b, -, h, hb⟩ := s.startUp_keeps State.pending soft (fun _ _ _ _ _ _ => rfl); rw [h, hb.2.2.2.1]
@[simp] theorem State.startUp_clock :
    (s.startUp soft).clock = { time := 0, tenths := 0, startupLeft := 4000, rotLeft := 0 } := by
  obtain ⟨b, -, h, hb⟩ := s.startUp_keeps State.clock soft (fun _ _ _ _ _ _ => rfl); rw [h, hb.2.2.2.2.1]
@[simp] theorem State.startUp_cipher : (s.startUp soft).cipher = { work := none, lastGranted := .site } := by
  obtain ⟨b, -, h, hb⟩ := s.startUp_keeps State.cipher soft (fun _ _ _ _ _ _ => rfl); rw [h, hb.2.2.2.2.2.1]

end

/-! ### What is abandoned -/

/-- Abandoning the work of the engines changes neither the supply nor the lines nor the commands that wait (R159). -/
theorem State.abandon_lines :
    s.abandon.power = s.power ∧ s.abandon.rst = s.rst ∧ s.abandon.pending = s.pending ∧ s.abandon.protection = s.protection := by
  have h : s.abandonActive.power = s.power ∧ s.abandonActive.rst = s.rst ∧ s.abandonActive.pending = s.pending ∧
      s.abandonActive.protection = s.protection := by
    unfold State.abandonActive
    cases h : s.engine.active with
    | none => exact ⟨rfl, rfl, rfl, rfl⟩
    | some a =>
      obtain ⟨op, left⟩ := a
      cases op with
      | settings c r =>
        cases c with
        | lock a => cases a <;> exact ⟨rfl, rfl, rfl, rfl⟩
        | _ => exact ⟨rfl, rfl, rfl, rfl⟩
      | retireMarks slots retry => simp [State.scatterMarks]
      | _ => exact ⟨rfl, rfl, rfl, rfl⟩
  exact h

/-- The engines and the ROT pulse after what they held is abandoned (R49, R159, R185). -/
theorem State.abandon_empty :
    s.abandon.engine.active = none ∧ s.abandon.engine.held = none ∧ s.abandon.cipher.work = none ∧ s.abandon.rotHigh = false :=
  ⟨rfl, rfl, rfl, rfl⟩

@[simp] theorem State.unpowered_power : s.unpowered.power = .off := rfl
@[simp] theorem State.unpowered_rst : s.unpowered.rst = s.rst := rfl
@[simp] theorem State.unpowered_array : s.unpowered.array = s.array := rfl
@[simp] theorem State.unpowered_pending : s.unpowered.pending = s.pending := rfl
@[simp] theorem State.unpowered_wpl : s.unpowered.protection.wpl = s.protection.wpl := rfl
@[simp] theorem State.unpowered_clock :
    s.unpowered.clock = { time := 0, tenths := 0, startupLeft := 0, rotLeft := 0 } := rfl

/-! ### The RST line -/

/-- After RST_ASSERT the line is active, and the part waits in reset or has no power (R185). -/
theorem execRstAssert_rst : ∃ t, execRstAssert s = .next t ∧ t.rst = true ∧ (t.power = .off ∨ t.power = .held) := by
  unfold execRstAssert
  cases h : s.power
  · exact ⟨_, rfl, rfl, .inl rfl⟩
  · exact ⟨_, rfl, rfl, .inr rfl⟩
  · exact ⟨_, rfl, rfl, .inr rfl⟩
  · exact ⟨_, rfl, rfl, .inr rfl⟩

/-- After RST_RELEASE the line is inactive, and a part that waited in reset starts up (R185). -/
theorem execRstRelease_rst : ∃ t, execRstRelease s = .next t ∧ t.rst = false ∧ (s.power = .held → t.power = .starting) := by
  unfold execRstRelease
  dsimp only
  split
  · exact ⟨_, rfl, by simp, fun _ => by simp⟩
  · rename_i h; exact ⟨_, rfl, rfl, fun h' => absurd h' h⟩

end Sys2Proof.Machine
end

