-- ==== Sys2Proof/Tests/Slice0.lean ====
section
/-! SUPPORT. Tests. First the checks of `WellFormed`, each with a term that it refuses. Then single steps of the manual's worked
examples, with the numbers that the manual gives. Then, for each obligation with hypotheses, a named state and operands that meet
them, with each clause at the ends of its range. -/

namespace Sys2Proof.Tests

set_option Elab.async false

open Sys2Proof.Machine

/-! ## Terms that are no commands -/

theorem test_payload_over_64_is_refused : (Instr.load (List.replicate 65 0)).wellFormed = false := by decide

theorem test_assigned_code_is_not_unknown :
    (Instr.unknownCommand .site 0x44).wellFormed = false ∧ (Instr.unknownCommand (.lane 0) 0x20).wellFormed = true := by decide

theorem test_protect_option_names_the_row :
    (Instr.setProtectVolatile [1, 1, 1]).wellFormed = false ∧ (Instr.setProtectNv [1, 1, 0]).wellFormed = false := by decide

theorem test_failed_slots_are_named_once : (Instr.eraseComplete [3, 3]).wellFormed = false := by decide

/-! ## States of the examples -/

/-- A READY port. -/
def readyPort : PortUnit := { PortUnit.initial with state := .ready }

/-- A factory part that runs, with every port READY. -/
def part : State :=
  { State.reset with
    power := .running
    clock := { time := 0, tenths := 0, startupLeft := 0, rotLeft := 0 }
    lanes := Vector.replicate 4 { Lane.initial with port := readyPort }
    site := { State.reset.site with port := readyPort } }

/-- A LOADED slot that every lane may use. -/
def keySlot (usage : Usage) (generation : Option Gen) (key : Block) : Slot :=
  { state := .loaded, fields := some { generation := generation, usage := usage, laneMask := 0xF, checkValue := 0 },
    key := key, markPending := false }

/-- Ring keys of the generations given, the `k`-th in slot `first + k`. -/
def withRingKeys (first : Nat) (generations : List Gen) (s : State) : State :=
  { s with store := { s.store with slots := Vector.ofFn fun i =>
      match generations[i.val - first]? with
      | some g => if first ≤ i.val then keySlot .tagRoot (some g) g.toNat else s.store.slots[i]
      | none => s.store.slots[i] } }

/-- The ring of the examples of chapter 2: C = 4094, h = 46, P = 86400 with 12 s left, slots 52 to 55. -/
def wrapPart : State :=
  withRingKeys 52 [4092, 4093, 4094, 4095]
    { part with ring := { part.ring with c := 4094, h := 46, period := 86400, remaining := 12 } }

/-- The ring of the examples of chapters 3 and 5: C = 200, h = 0, with receipt slot 0 and transport slot 63, and the counter of
chapter 6: next 11263, limit 12288. -/
def gantry : State :=
  (((withRingKeys 8 [200, 201] (withRingKeys 54 [198, 199]
    { part with ring := { part.ring with c := 200 },
                counter := { state := .running, next := 11263, limit := 12288, reserving := false, setting := false },
                array := { part.array with counter := .good 12288 },
                engine := { part.engine with faults := { part.engine.faults with counter := false } } })).setSlot 0
    (keySlot .receipt none 0xA5)).setSlot 63 (keySlot .transport none 0x5A))

/-- An open session of generation 200, opened `age` µs before time 0. -/
def session (verified : Bool) (age : Nat) : Session :=
  { verified := verified, tagId := 0xE1, generation := 200, kt := 7, nt := 8, nr := 9, opened := 0 - BitVec.ofNat 32 age }

/-- The gantry with a lane changed. -/
def atLane (l : LaneIx) (f : Lane → Lane) : State := gantry.setLane l (f (gantry.lane l))

/-- Lane 2 of the example of chapter 5: four open sessions. -/
def lane2 (x : Lane) : Lane :=
  { x with sessions := #v[{ serial := 17, session := some (session true 30000) },
                          { serial := 40, session := some (session false 12000) },
                          { serial := 3, session := some (session false 25000) },
                          { serial := 9, session := some (session true 5000) }] }

/-- A state with an operation active. -/
def busyWith (op : Operation) (remaining : Nat) (s : State) : State :=
  { s with engine := { s.engine with active := some { op := op, remaining := remaining } } }

/-- A state with a program or erase held. -/
def holding (op : SlotOp) (remaining : Nat) (by_ : HeldBy) (s : State) : State :=
  { s with engine := { s.engine with held := some { op := op, remaining := remaining, by_ := by_ } } }

/-- A state with the permit set. -/
def permitted (s : State) : State := { s with engine := { s.engine with permit := true } }

/-- A state with work in the cipher engine. -/
def working (p : Port) (left : Nat) (t : Task) (s : State) : State :=
  { s with cipher := { s.cipher with work := some { requester := p, detached := false, left := left, task := t } } }

/-- What a command makes of a state. -/
def after (c : Instr) (s : State) : State :=
  match exec c s with
  | .next t => t
  | _ => s

/-- The status of a port's response. -/
def status (p : Port) (s : State) : Option Code := (s.port p).response.map (·.status)

/-! ## The manual's worked examples, step by step -/

/-- The vector of the published standard of the cipher. -/
theorem test_cipher_vector :
    E 0x000102030405060708090a0b0c0d0e0f 0x00112233445566778899aabbccddeeff = 0x69c4e0d86a7b0430d8cdb78070b4c55a := by
  decide +kernel

/-- Section 2.2: positions and slots across the wrap. -/
theorem test_positions_across_the_wrap :
    let p := fun g => wrapPart.ring.position g
    let i := fun n => (wrapPart.ring.slotAt wrapPart.store.geometry n).val
    (p 4091, p 4092, p 4094, p 0, p 43, p 44) = (-3, -2, 0, 2, 45, 46) ∧ (i (-2), i 0, i 1, i 2, i 45) = (52, 54, 55, 8, 51) ∧
    wrapPart.slotPosition 52 = -2 ∧ wrapPart.slotPosition 8 = 2 := by decide +kernel

/-- The example of chapter 2: the expiry with the next key present. -/
theorem test_rotationTimerExpiry_advances :
    let t := after .rotationTimerExpiry wrapPart
    (t.ring.c, t.ring.h, t.ring.remaining, t.clock.time) = (4095, 47, 86400, 12000000) ∧ t.retireSet = [52] ∧
    t.engine.genRequest = some { c := 4095, h := 47, retry := false } ∧ t.rotHigh = true := by decide +kernel

/-- The example of chapter 2: an early ADVANCE. -/
theorem test_advance_without_the_next_key :
    status .site (after (.advance []) (after .rotationTimerExpiry wrapPart)) = some .nextNotLoaded := by decide +kernel

/-- The example of chapter 2: the expiry without the next key. -/
theorem test_rotationTimerExpiry_late :
    let t := after .rotationTimerExpiry (after .rotationTimerExpiry wrapPart)
    (t.ring.c, t.ring.rotationPending, t.ring.remaining, t.site.flags &&& 8) = (4095, true, 0, 8) := by decide +kernel

/-- The example of chapter 2: the late key arrives, and its completion takes the advance. -/
theorem test_programComplete_takes_a_pending_rotation :
    let late := after .rotationTimerExpiry (after .rotationTimerExpiry wrapPart)
    let t := after (.programComplete true) (busyWith (.slotOp (.program 8)) 3000
      (late.setSlot 8 { keySlot .tagRoot (some 0) 1 with state := .programming }))
    (t.ring.c, t.ring.h, t.ring.rotationPending, t.retireSet) = (0, 0, false, [52, 53]) := by decide +kernel

/-- The example of chapter 5: the ANSWER of lane 2 evicts its oldest session, and the new handle is 18. -/
theorem test_answerCompletion_evicts :
    let t := after .answerCompletion (working (.lane 2) 12 (.answer 0x61 ⟨0xE1, 200, 3⟩ 8 200 true 7 5 6) (atLane 2 lane2))
    (t.lane 2).results = [{ jobTag := 0x61, kind := .answer, code := .ok, extra := .answer 18 5 6 }] ∧
    (t.lane 2).flags = 8 ∧ ((t.lane 2).sessions[0]).serial = 18 := by decide +kernel

/-- The example of chapter 5: handle 17 is no longer current. -/
theorem test_grant_of_a_stale_handle :
    let t := after .grant (atLane 2 fun x => { x with
      jobs := [{ jobTag := 1, budget := 0, arrival := 0, lapsed := false, body := .seal ⟨17, 0, 0⟩ }]
      sessions := x.sessions.set 0 { serial := 18, session := some (session true 0) } })
    ((t.lane 2).results.map (·.code), t.counter.next) = ([.sessionUnknown], 11263) := by decide +kernel

/-- The example of chapter 6: the SEAL takes 11263, 1024 numbers are left, and a reservation up to 16384 is requested. -/
theorem test_grant_of_a_seal_reserves :
    let t := after .grant (atLane 0 fun x => { x with
      jobs := [{ jobTag := 1, budget := 0, arrival := 0, lapsed := false, body := .seal ⟨17, 0, 0⟩ }]
      sessions := x.sessions.set 0 { serial := 17, session := some (session true 0) } })
    (t.counter.next, t.counter.reserving) = (11264, true) ∧
    t.engine.counterRequest = some { limit := 16384, retry := false } := by decide +kernel

/-- The example of chapter 6: the bank erase gives way, with 45 ms left. -/
theorem test_internalWriteStart_holds_the_erase :
    let s := busyWith (.slotOp (.eraseBank 5)) 45000
      { gantry with engine := { gantry.engine with counterRequest := some { limit := 16384, retry := false } } }
    let t := after .internalWriteStart s
    t.engine.held = some { op := .eraseBank 5, remaining := 45000, by_ := .auto } ∧
    t.engine.active = some { op := .reservation 16384 false, remaining := 1000 } ∧ t.engine.restLeft = 20 := by decide +kernel

/-- The example of chapter 6: after a loss of power the counter resumes at its limit. -/
theorem test_powerOn_resumes_the_counter :
    let t := after .powerOn (after .powerLoss { gantry with array := { gantry.array with counter := .good 16384 } })
    (t.counter.next, t.counter.limit) = (16384, 16384) ∧
    t.engine.counterRequest = some { limit := 20480, retry := false } := by decide +kernel

/-- A LOAD payload with the target, usage, lane mask, transport byte, KCV and manifest given. -/
def loadPayload (target : List Byte) (usage mask transport : Byte) (kcv : List Byte) (manifest : Byte) : List Byte :=
  target ++ [usage, mask, transport] ++ List.replicate 32 0 ++ kcv ++ [manifest]

/-- The example of chapter 7: the manifests of commissioning. -/
theorem test_manifests :
    let m := fun p => (argLoad p).map part.manifest
    m (loadPayload [2, 0, 0x3F] 3 0 0xFF [0x1A, 0x2B, 0x3C] 0) = some 0xFB ∧
    m (loadPayload [2, 0, 0x38] 2 0x0F 0x3F [0x4D, 0x5E, 0x6F] 0) = some 0x9B ∧
    m (loadPayload [1, 0, 0] 1 0x0F 0x3F [0x11, 0x22, 0x33] 0) = some 0xAE ∧
    m (loadPayload [1, 0, 1] 1 0x0F 0x3F [0x44, 0x55, 0x66] 0) = some 0x48 := by decide +kernel

/-- The example of chapter 7: the plaintext load of the transport key. -/
theorem test_load_of_the_transport_key :
    let t := after (.load (loadPayload [2, 0, 0x3F] 3 0 0xFF [0x1A, 0x2B, 0x3C] 0xFB)) (permitted part)
    (status .site t, t.engine.permit) = (some .accepted, false) ∧ t.preparing.isSome = true := by decide +kernel

/-- The example of chapter 7: a ring load answers its slot and position. -/
theorem test_load_of_generation_1 :
    let s := permitted (part.setSlot 63 (keySlot .transport none 0x5A))
    ((after (.load (loadPayload [1, 0, 1] 1 0x0F 0x3F [0x44, 0x55, 0x66] 0x48)) s).port .site).response =
      some { status := .accepted, payload := [9, 0, 1] } := by decide +kernel

/-- The example of chapter 7: SET_COUNTER with base 0 carries the limit 4096. -/
theorem test_setCounter_from_factory :
    ((after (.setCounter [0, 0, 0, 0]) (permitted part)).port .site).response =
      some { status := .accepted, payload := [0, 0, 0, 0, 0, 0, 0x10, 0] } := by decide +kernel

/-- The example of chapter 8: the bank of 40 to 47 with three retired slots and a damaged one has four targets. -/
theorem test_eraseBank_counts_its_targets :
    let s := (([40, 41, 42] : List SlotIx).foldl (fun s i => s.setSlot i { keySlot .tagRoot (some 1) 1 with state := .retired })
      (permitted gantry)).setSlot 43 { Slot.empty with state := .damaged }
    let t := after (.eraseBank [5]) s
    (t.port .site).response = some { status := .accepted, payload := [5, 4] } ∧
    (t.slot 43).state = .erasing ∧ (t.slot 44).state = .blank := by decide +kernel

/-- R185: power on a factory part without power gives the state after reset. -/
theorem test_powerOn_of_a_factory_part : after .powerOn (after .powerLoss State.reset) = State.reset := by decide +kernel

/-- R185: a part that is powered while RST is active waits in reset, answers nothing, and starts up at the release. -/
theorem test_powerOn_under_rst :
    let waiting := after .powerOn (after .rstAssert (after .powerLoss State.reset))
    waiting.power = .held ∧ status .site (after (.permit [1]) waiting) = none ∧ waiting.wait 4000 = waiting ∧
    after .rstRelease waiting = State.reset := by decide +kernel

/-- R185: RST stays active across a loss of power. -/
theorem test_powerLoss_keeps_the_rst_level :
    (after .powerOn (after .powerLoss (after .rstAssert part))).power = .held := by decide +kernel

/-- R176, R182: the end of start-up after 4 ms. -/
theorem test_startupEnd :
    let t := after .startupEnd State.reset
    (t.clock.time, (t.port .site).state, (t.port (.lane 3)).state, t.site.flags) = (4000, .resync, .resync, 0x50) := by
  decide +kernel

/-- R175: a frame as bytes becomes a row of the table. -/
theorem test_receive :
    receive .site [0x20, 1, 1, 0xDE] true = .permit [1] ∧ receive .site [0x20, 1, 1, 0xDF] true = .checkFail .site ∧
    receive .site [0x20, 1, 1] true = .frameError .site .cutShort ∧ receive (.lane 1) [0x20, 0, 0xE0] true =
      .unknownCommand (.lane 1) 0x20 ∧ receive .site [0x38, 3, 1, 1, 1, 0xC2] true = .setProtectNv [1, 1, 1] := by decide +kernel

/-! ## Witnesses: the hypotheses of the obligations are met -/

theorem part_admits (p : Port) : part.Admits p := ⟨rfl, by cases p with | site => rfl | lane l => revert l; decide⟩

theorem gantry_admits (p : Port) : gantry.Admits p :=
  ⟨rfl, by cases p with | site => rfl | lane l => revert l; decide +kernel⟩

/-- The gantry with a session of generation 200, a tag key of generation 199, and a locked head area. -/
def charging : State :=
  { atLane 0 (fun x => { x with sessions := x.sessions.set 1 { serial := 6, session := some (session true 30000) } }) with
    cache := [{ tagId := 0xE1, generation := 199, kt := 7 }]
    protection := { gantry.protection with head := { gantry.protection.head with lock := true } } }

theorem charging_engineLaw : EngineLaw charging where
  beside := by intro a x h; cases h
  programs := by rintro i (⟨_, h⟩ | ⟨_, _, h⟩) <;> cases h
  programming := fun i h => absurd h (by revert i; decide +kernel)
  erasing := fun i h => absurd h (by revert i; decide +kernel)
  loads := by intro a l h; cases h
  unwraps := by intro w l kx h; cases h
  silent := by rintro (h | h) <;> cases h

theorem charging_slotLaw : SlotLaw charging := ⟨charging_engineLaw, by unfold Slot.Ok; decide +kernel⟩

theorem charging_ringLaw : RingLaw charging :=
  ⟨charging_engineLaw, (by intro a _ _ h; cases h), by intro _; decide +kernel⟩

theorem charging_generationsInRing : GenerationsInRing charging :=
  ⟨by decide +kernel, by intro a l h; cases h⟩

theorem charging_windowLaw : WindowLaw charging :=
  ⟨by unfold Settings.Ok Geometry.Ok; decide +kernel, by decide +kernel, by rintro r ⟨⟩; unfold Settings.Ok Geometry.Ok; decide,
    (by intro a c r h; cases h), by intro a i g h h'; cases h'⟩

theorem charging_counterLaw : CounterLaw charging where
  engine := charging_engineLaw
  running := fun _ => ⟨by decide +kernel, by decide +kernel, by decide +kernel, by rintro v ⟨⟩; rfl⟩
  exhausted := by intro h; cases h
  record := by rintro v ⟨⟩; decide
  suits := by intro a h; cases h
  request := by intro r h; cases h
  writing := by intro a _ _ h; cases h
  alone := by intro a _ _ h; cases h
  setting := by intro h; cases h
  reserving := by intro h; cases h

theorem witness_QueueLawKept : QueueLaw charging ∧ step charging = .next (charging.wait 1) := by
  have h : ∀ l, (charging.lane l).jobs.length ≤ 8 ∧ (charging.lane l).results.length ≤ 8 ∧
    (charging.lane l).counterWait = false := by decide +kernel
  refine ⟨⟨fun l => ⟨(h l).1, (h l).2.1, fun h' => ?_⟩, fun w l h => by cases h⟩, rfl⟩
  rw [(h l).2.2] at h'
  cases h'

theorem witness_WindowLawKept : WindowLaw charging ∧ step charging = .next (charging.wait 1) := ⟨charging_windowLaw, rfl⟩

theorem witness_SlotLawKept : SlotLaw charging ∧ step charging = .next (charging.wait 1) := ⟨charging_slotLaw, rfl⟩

theorem witness_LockedSlotsStandStill :
    LockLaw charging ∧ exec (.advance []) charging = .next (after (.advance []) charging) ∧
    charging.lockedSlot 0 = true ∧ charging.lockedSlot 7 = true :=
  ⟨⟨charging_engineLaw, by decide +kernel, by intro a l h; cases h⟩, rfl, by decide +kernel, by decide +kernel⟩

theorem witness_RingLawKept : RingLaw charging ∧ step charging = .next (charging.wait 1) := ⟨charging_ringLaw, rfl⟩

/-- Every open session of `charging` is of generation 200. -/
theorem charging_sessions : ∀ (l : LaneIx) (e : EntryIx), ((charging.lane l).sessions[e]).session = none ∨
    ((charging.lane l).sessions[e]).session = some (session true 30000) := by decide +kernel

theorem witness_SessionLawKept : SessionLaw charging ∧ step charging = .next (charging.wait 1) := by
  refine ⟨⟨charging_windowLaw, charging_slotLaw, charging_ringLaw.2.1, charging_generationsInRing,
    fun l e x h => ⟨8, by decide +kernel, by decide +kernel, ?_⟩⟩, rfl⟩
  rcases charging_sessions l e with h' | h' <;> rw [h'] at h <;> cases h
  decide +kernel

theorem witness_CacheLawKept : CacheLaw charging ∧ step charging = .next (charging.wait 1) := by
  refine ⟨⟨charging_windowLaw, charging_ringLaw, charging_slotLaw, charging_generationsInRing, (by intro a _ _ _ h; cases h),
    by unfold CacheOk; decide +kernel, ?_⟩, rfl⟩
  intro e h
  obtain rfl : e = _ := List.mem_singleton.mp h
  exact ⟨55, by decide +kernel⟩

theorem witness_ReceiptNumbersNeverFall : CounterLaw charging ∧ exec .powerLoss charging = .next (after .powerLoss charging) ∧
    (∀ v, Instr.powerLoss ≠ .setCounterComplete v) ∧ charging.numberFloor = some 11263 :=
  ⟨charging_counterLaw, rfl, (by intro v h; cases h), by decide +kernel⟩

theorem witness_ResponsesDoNotDependOnKeys :
    ∃ t u, exec (.permit [1]) charging = .next t ∧ exec (.permit [1]) charging.blind = .next u ∧
      (t.port .site).response.isSome = true :=
  ⟨_, _, rfl, rfl, by decide +kernel⟩

theorem witness_StepTakesTheFront :
    ({ part with pending := [.grant, .advance []] }).pending = .grant :: [.advance []] ∧ part.pending = [] := ⟨rfl, rfl⟩

theorem witness_FramesReadBack :
    (Instr.load (List.replicate 64 1)).request = some (.site, 0x21, List.replicate 64 1) ∧
    (Instr.load (List.replicate 64 1)).wellFormed = true ∧
    (Instr.advance []).request = some (.site, 0x30, []) ∧ (Instr.advance []).wellFormed = true := by decide

/-- The part with the site port's unit given. -/
def sitePort (x : PortUnit) : State := { part with site := { part.site with port := x } }

/-- The lengths of ADVANCE, SUBMIT and SYNC in the table of R186. -/
theorem witness_lengthFits :
    lengthFits .site 0x30 0 ∧ ¬lengthFits .site 0x30 1 ∧ ¬lengthFits (.lane 0) 0x10 0 ∧ ¬lengthFits .site 0x01 3 ∧
    lengthFits (.lane 0) 0x01 3 := by simp [lengthFits]

theorem witness_ErrorFramesAreCounted :
    ((Instr.submit 0 []).request = some (.lane 0, 0x10, []) ∧
      (Instr.sync .site [0, 0, 0]).request = some (.site, 0x01, [0, 0, 0]) ∧
      (List.replicate 64 (0 : Byte)).length ≤ 64 ∧ 64 < (List.replicate 65 (0 : Byte)).length ∧
      (Instr.load (List.replicate 65 0)).request = some (.site, 0x21, List.replicate 65 0)) ∧
    (∀ st ∈ [PortState.resync, .ready, .halted],
      let s := sitePort { readyPort with state := st }
      s.power = .running ∧ (s.port .site).state = st) ∧
    (let s := sitePort { readyPort with checkCount := 15, frameCount := 255 }
     s.monitor.threshold = (s.port .site).count .check + 1 ∧ s.monitor.halts .check = true ∧
     (s.port .site).count .frame = 255 ∧ s.monitor.wraps .frame = false) := by decide

theorem witness_ClosedPortsTakeNothing :
    (Instr.advance []).request = some (.site, 0x30, []) ∧ (Instr.advance []).isSync = false ∧ State.reset.power = .starting ∧
    (Instr.advance [0]).request = some (.site, 0x30, [0]) ∧
    (after .powerLoss part).power = .off ∧ (after .rstAssert part).power = .held ∧
    FrameFault.cutShort ≠ .overlong true ∧ FrameFault.overlong false ≠ .overlong true ∧
    (∀ st ∈ [PortState.resync, .halted, .disabled],
      let s := sitePort { readyPort with state := st }
      s.power = .running ∧ (s.port .site).state = st) := by decide

theorem witness_SyncReadiesAPort :
    part.Examines (.lane 3) ∧ ((0 : Byte) ++ (0 : Byte) : BitVec 16) = part.siteCode ∧ part.Examines .site ∧
    (4 : Byte) ≠ numByte (3 : LaneIx).val ∧ ((0 : Byte) ++ (1 : Byte) : BitVec 16) ≠ part.siteCode ∧
    (let s := { part with siteCode := 0xFFFF }
     s.Examines .site ∧ ((0 : Byte) ++ (1 : Byte) : BitVec 16) ≠ s.siteCode ∧ s.siteCode ≠ 0) := by unfold State.Examines; decide

theorem witness_ReportsChangeNothing :
    gantry.Admits (.lane 0) ∧ gantry.Admits .site ∧ 64 ≤ (64 : Byte).toNat ∧ 64 ≤ (255 : Byte).toNat :=
  ⟨gantry_admits _, gantry_admits _, by decide, by decide⟩

theorem witness_EventCommands :
    gantry.Admits (.lane 3) ∧ gantry.Admits .site ∧
    (let raised := fun (flags enables : BitVec 7) => { part with site := { part.site with flags := flags, enables := enables } }
     (raised 0x40 0x40).attention .site = true ∧ (raised 0x40 0x3F).attention .site = false) ∧
    (let x := fun (flags enables : BitVec 4) => atLane 3 fun x => { x with flags := flags, enables := enables }
     (x 8 8).attention (.lane 3) = true ∧ (x 1 1).attention (.lane 3) = false) :=
  ⟨gantry_admits _, gantry_admits _, by decide +kernel, by decide +kernel⟩

theorem witness_PermitMonitorAndReset :
    part.Admits .site ∧ (∀ t ∈ [(1 : Byte), 255], t ≠ 0) ∧ (7 : Byte).toNat < 8 ∧ 8 ≤ (8 : Byte).toNat ∧
    ({ part with site := { part.site with resetArm := true } }).Admits .site ∧
    ({ part with site := { part.site with resetArm := true } }).site.resetArm = true ∧ part.site.resetArm = false := by
  unfold State.Admits; decide

theorem witness_CountsAreReadAndCleared :
    part.Admits .site ∧ (4 : Byte).toNat = 4 ∧ (0 : Byte).toNat = (0 : LaneIx).val ∧ (3 : Byte).toNat = (3 : LaneIx).val ∧
    4 < (5 : Byte).toNat := by unfold State.Admits; decide

theorem witness_StartUpBegins :
    ((after .powerLoss part).power = .off ∧ (after .powerLoss part).rst = false) ∧
    ((after .rstAssert (after .powerLoss part)).power = .off ∧ (after .rstAssert (after .powerLoss part)).rst = true) ∧
    ((after .rstAssert part).power = .held ∧ (after .rstAssert part).rst = true) ∧
    (RstLaw part ∧ step part = .next (part.wait 1)) ∧
    (let s := after (.reset []) (after (.resetArm []) part)
     s.power = .running ∧ s.site.resetTaken = true) := by
  refine ⟨by decide, by decide, by decide, ⟨?_, rfl⟩, by decide⟩
  unfold RstLaw; decide

/-- The part with records of its array replaced. -/
def recorded (settings : NvRecord Settings) (generation : NvRecord GenRecord) (counter : NvRecord Nat) : State :=
  { part with array := { part.array with settings := settings, generation := generation, counter := counter } }

theorem witness_StartUpTakesTheRecords :
    let n := Settings.factory.geometry.ring
    (∀ h ∈ [0, 47], (recorded .erased (.good ⟨true, 9, h⟩) .damaged).array.generation = .good ⟨true, 9, h⟩ ∧ h < n) ∧ n ≤ 48 ∧
    (∀ g, (recorded .erased .erased (.good 4294967294)).array.generation ≠ .good g) ∧
    (recorded .erased .erased (.good 4294967294)).array.counter = .good 4294967294 ∧ 4294967294 < 4294967295 ∧
    (recorded .damaged .erased (.good 4294967295)).array.counter = .good 4294967295 ∧
    (recorded .damaged .erased .erased).array.counter.isGood = false :=
  ⟨by decide, by decide, by (intro g h; cases h), rfl, by decide, rfl, rfl⟩

/-- The fields of a ring slot of generation 1, whose position is 1 in a factory ring. -/
def ringFields (g : Gen) : SlotFields := { generation := some g, usage := .tagRoot, laneMask := 0xF, checkValue := 0 }

/-- A factory part with one NV slot record replaced. -/
def withRecord (i : SlotIx) (x : NvSlot) : State := part.setNvSlot i x

theorem witness_StartUpClassifiesTheSlots :
    let ended := fun g => ({ marker := .programEnded, fields := some (ringFields g), key := 5, checkGood := true } : NvSlot)
    let t := (withRecord 9 (ended 1)).startUp false
    part.nvSlot 9 = NvSlot.empty ∧
    (withRecord 9 (ended 1)).nvSlot 9 = ended 1 ∧ t.areaOf 9 = .ring ∧ t.ring.live = true ∧
    t.ring.standsFor t.store.geometry 9 = 1 ∧ (ringFields 2).generation ≠ some 1 ∧
    ({ ended 1 with marker := .retireMarked } : NvSlot).marker = .retireMarked ∧
    ({ ended 1 with marker := .eraseBegun } : NvSlot) ≠ NvSlot.empty ∧ t.notes.slotsDamaged = false ∧
    ((withRecord 63 { ended 1 with marker := .eraseBegun }).startUp false).notes.slotsDamaged = true := by decide +kernel

theorem witness_AbandonedWorkLeavesTheArray :
    let s := busyWith (.settings (.lock .head) part.settings) 10 part
    s.power ≠ .off ∧ s.power = .running ∧ State.reset.power = .starting ∧ s.array.headCell = false ∧
    s.engine.active.map (·.op) = some (.settings (.lock .head) s.settings) := by decide +kernel

theorem witness_StartupEndAndWpl :
    State.reset.power = .starting ∧ (∀ lock valid : Bool,
      ({ nv := true, overlayValid := valid, overlay := false, lock := lock } : AreaProtection).lock = lock) := by decide

/-- A job. -/
def job (budget : Nat) (lapsed : Bool) (body : JobBody) : Job :=
  { jobTag := 1, budget := budget, arrival := 0, lapsed := lapsed, body := body }

theorem witness_SubmitQueuesAJob :
    (let s := atLane 1 fun x => { x with jobs := List.replicate 7 (job 0 false (.verify ⟨0, 0⟩)) }
     s.Admits (.lane 1) ∧ (s.lane 1).jobs.length < 8) ∧
    (let s := atLane 1 fun x => { x with jobs := List.replicate 8 (job 0 false (.verify ⟨0, 0⟩)) }
     s.Admits (.lane 1) ∧ 8 ≤ (s.lane 1).jobs.length) ∧
    (List.replicate 8 (1 : Byte)).length = 8 ∧ (List.replicate 16 (1 : Byte)).length = 16 ∧
    (List.replicate 63 (1 : Byte)).length < 64 ∧ ((4 : Byte).toNat = 4 ∧ (255 : Byte).toNat = 255) ∧
    ¬(((3 : Byte) = 0x01 ∧ (List.replicate 63 (1 : Byte)).length = 21) ∨
      ((3 : Byte) = 0x02 ∧ (List.replicate 63 (1 : Byte)).length = 12) ∨
      ((3 : Byte) = 0x03 ∧ (List.replicate 63 (1 : Byte)).length = 21)) := by unfold State.Admits; decide +kernel

theorem witness_FetchTakesTheOldestResult :
    let r : Result := { jobTag := 1, kind := .verify, code := .pass, extra := .none }
    let s := atLane 1 fun x => { x with results := [r] }
    s.Admits (.lane 1) ∧ (s.lane 1).results = r :: [] ∧ gantry.Admits (.lane 1) ∧ (gantry.lane 1).results = [] := by
  unfold State.Admits; decide +kernel

theorem witness_DeadlinesLapse :
    let j := job 65535 false (.seal ⟨17, 0, 0⟩)
    let s := atLane 3 fun x => { x with jobs := List.replicate 7 j ++ [j] }
    let t := atLane 3 fun x => { x with jobs := [j], counterWait := true }
    s.power = .running ∧ (s.lane 3).jobs = List.replicate 7 j ++ j :: [] ∧ (7 : Fin 8).val = (List.replicate 7 j).length ∧
    0 < j.budget ∧ j.lapsed = false ∧ (s.lane 3).counterWait = false ∧
    (t.lane 3).jobs = [] ++ j :: [] ∧ (0 : Fin 8).val = ([] : List Job).length ∧ (t.lane 3).counterWait = true := by decide +kernel

/-- The gantry with one job at the head of the queue of lane 2, whose sessions are those of the example of chapter 5. -/
def dispatching (lapsed : Bool) (body : JobBody) : State := atLane 2 fun x => { lane2 x with jobs := [job 100 lapsed body] }

theorem witness_GrantsGoRoundInOrder :
    (busyWith (.load ⟨10, none, .receipt, 0, none, 0, 0, 0⟩) 0 gantry).cipher.work = none ∧ gantry.cipher.work = none ∧
    gantry.eligible .site = false := by decide +kernel

theorem witness_JobsEndAtDispatch :
    (∀ body ∈ [JobBody.verify ⟨18, 0⟩, .verify ⟨17, 0⟩, .seal ⟨18, 0, 0⟩, .seal ⟨104, 0, 0⟩, .seal ⟨17, 0, 0⟩],
      let s := dispatching false body
      s.power = .running ∧ s.cipher.work = none ∧ s.nextGrant = some (.lane 2) ∧ (s.lane 2).jobs = [job 100 false body]) ∧
    (let s := dispatching true (.verify ⟨17, 0⟩)
     s.nextGrant = some (.lane 2) ∧ (s.lane 2).jobs = [job 100 true (.verify ⟨17, 0⟩)]) ∧
    (let x := (dispatching false (.verify ⟨17, 0⟩)).lane 2
     x.current 18 = none ∧ x.current 17 = some (session true 30000) ∧ x.current 104 = some (session false 12000)) ∧
    (∀ i : SlotIx, ¬((64 : Byte).toNat = i.val)) ∧
    (let s := dispatching false (.seal ⟨17, 0, 0⟩)
     (0 : Byte).toNat = (0 : SlotIx).val ∧ s.inRing 0 = false ∧ (s.slot 0).state = .loaded ∧
     (s.slot 0).usage = some .receipt ∧ (s.slot 0).allows 2 = true) ∧
    (∀ st ∈ [CounterState.unset, .exhausted],
      ({ gantry with counter := { gantry.counter with state := st } }).counter.state = st) := by decide +kernel

theorem witness_ResolutionRows :
    let s := wrapPart
    let retired := s.setSlot 52 { s.slot 52 with state := .retired }
    let noLane := s.setSlot 55 { s.slot 55 with fields := some { ringFields 4095 with laneMask := 0 } }
    ({ s with ring := { s.ring with live := false } }).ring.live = false ∧ s.ring.live = true ∧
    s.ring.position 4091 < -(s.ring.back : Int) ∧ (s.ring.ahead : Int) < s.ring.position 0 ∧
    s.ring.position 4092 = -(s.ring.back : Int) ∧ s.ring.position 4095 = (s.ring.ahead : Int) ∧
    (retired.slot (s.ring.slotAt s.store.geometry (-2))).state = .retired ∧
    ((after (.powerLoss) s).slot 52).state ≠ .loaded ∧
    (s.slot 55).state = .loaded ∧ (s.slot 55).generation = some 4095 ∧ (s.slot 55).allows 0 = true ∧
    (noLane.slot 55).generation = some 4095 ∧ (noLane.slot 55).allows 0 = false := by decide +kernel

theorem witness_AnswersAndVerifiesEnter :
    (∀ body ∈ [JobBody.answer ⟨0xE1, 200, 3⟩, .answer ⟨0xE1, 197, 3⟩, .verify ⟨104, 0⟩],
      let s := dispatching false body
      s.power = .running ∧ s.cipher.work = none ∧ s.nextGrant = some (.lane 2) ∧ (s.lane 2).jobs = [job 100 false body]) ∧
    (gantry.resolve 2 197).toOption = none ∧ (gantry.resolve 2 200).toOption = some 8 ∧
    (let e : CacheEntry := { tagId := 0xE1, generation := 200, kt := 7 }
     ({ gantry with cache := [e] }).cache = [] ++ e :: []) ∧ gantry.cache = [] ∧
    ((dispatching false (.verify ⟨104, 0⟩)).lane 2).current 104 = some (session false 12000) := by decide +kernel

/-- A SEAL of lane 2 that finds its session and its receipt slot, with the counter given. -/
def sealing (c : Counter) : State := { dispatching false (.seal ⟨17, 0, 0⟩) with counter := c }

theorem witness_SealsTakeTheNextNumber :
    (∀ c ∈ [({ state := .running, next := 4294967294, limit := 4294967295, reserving := false, setting := false } : Counter),
            { state := .running, next := 11262, limit := 12288, reserving := false, setting := false },
            { state := .running, next := 11263, limit := 12288, reserving := false, setting := false },
            { state := .running, next := 12288, limit := 12288, reserving := false, setting := false },
            { state := .running, next := 12288, limit := 12288, reserving := true, setting := false },
            { state := .running, next := 0, limit := 12288, reserving := false, setting := true }],
      let s := sealing c
      s.nextGrant = some (.lane 2) ∧ (s.lane 2).jobs = [job 100 false (.seal ⟨17, 0, 0⟩)] ∧
      (s.lane 2).current 17 = some (session true 30000) ∧ s.receiptSlot 2 0 = some 0 ∧ s.counter = c) ∧
    (12288 - (11262 + 1) = 1025 ∧ 12288 - (11263 + 1) = 1024) ∧
    (sealing gantry.counter).power = .running ∧ (sealing gantry.counter).cipher.work = none := by decide +kernel

/-- A LOAD in PREPARING. -/
def preparingLoad (transport : Option SlotIx) (kcv : BitVec 24) : Load :=
  { slot := 10, generation := some 202, usage := .tagRoot, laneMask := 0xF, transport := transport, wrapped := 1,
    iv := 2, kcv := kcv }

theorem witness_UnwrapsOfLoads :
    (∀ transport ∈ [none, some 63, some 0],
      let s := busyWith (.load (preparingLoad transport 0)) 0 gantry
      s.power = .running ∧ s.cipher.work = none ∧ s.nextGrant = some .site ∧
      s.engine.active = some { op := .load (preparingLoad transport 0), remaining := 0 }) ∧
    (gantry.slot 63).serves .transport = true ∧ (gantry.slot 0).serves .transport = false := by decide +kernel

/-- The unwrap compares the check value: some KCV passes, and another fails. -/
theorem witness_UnwrapsOfLoads_compare (key : Block) :
    (working .site 20 (.unwrap (preparingLoad (some 63) (checkValueOf key)) (some 0x5A)) gantry).cipher.work =
      some { requester := .site, detached := false, left := 20,
             task := .unwrap (preparingLoad (some 63) (checkValueOf key)) (some 0x5A) } ∧
    (E key 0).extractLsb' 104 24 = checkValueOf key ∧ (E key 0).extractLsb' 104 24 ≠ checkValueOf key + 1 :=
  ⟨rfl, rfl, by change checkValueOf key ≠ _; generalize checkValueOf key = v; bv_omega⟩

theorem witness_AnswersComplete :
    (working (.lane 2) 20 (.answer 1 ⟨0xE1, 201, 3⟩ 8 200 false 7 5 6) gantry).cipher.work = some
      { requester := .lane 2, detached := false, left := 20, task := .answer 1 ⟨0xE1, 201, 3⟩ 8 200 false 7 5 6 } ∧
    ((gantry.slot 8).state = .loaded ∧ (gantry.slot 8).generation = some 200 ∧ (gantry.slot 8).generation ≠ some 201) ∧
    (gantry.ring.position 201 = 1 ∧ gantry.ring.position 202 = 2 ∧ gantry.ring.position 198 = -2 ∧ gantry.ring.position 197 = -3) ∧
    ((gantry.lane 2).sessions[(0 : EntryIx)]).session = none ∧
    (let x := (atLane 2 lane2).lane 2
     (∀ e : EntryIx, (x.sessions[e]).session ≠ none) ∧
     (∀ e : EntryIx, (x.sessions[e]).age 901 ≤ (x.sessions[(0 : EntryIx)]).age 901)) := by decide +kernel

theorem witness_VerifiesAndSealsComplete (mac : BitVec 64) :
    let s := working (.lane 2) 12 (.verify 1 ⟨104, mac⟩ 7 8 9) (atLane 2 lane2)
    s.cipher.work = some { requester := .lane 2, detached := false, left := 12, task := .verify 1 ⟨104, mac⟩ 7 8 9 } ∧
    ((atLane 2 lane2).lane 2).current 104 = some (session false 12000) ∧ ((atLane 2 lane2).lane 2).current 105 = none ∧
    (working (.lane 0) 4 (.answerEnded 1 ⟨1, 2, 3⟩ .tooOld) gantry).cipher.work =
      some { requester := .lane 0, detached := false, left := 4, task := .answerEnded 1 ⟨1, 2, 3⟩ .tooOld } ∧
    (working (.lane 0) 20 (.seal 1 ⟨17, 0, 0⟩ 1 200 5 6) gantry).cipher.work =
      some { requester := .lane 0, detached := false, left := 20, task := .seal 1 ⟨17, 0, 0⟩ 1 200 5 6 } :=
  ⟨rfl, by decide +kernel, by decide +kernel, rfl, rfl⟩

theorem witness_SessionLifetime :
    let s := atLane 2 lane2
    s.power = .running ∧ s.Admits .site ∧ ((s.lane 2).sessions[(0 : EntryIx)]).session = some (session true 30000) ∧
    29 * 1000 < elapsed (session true 30000).opened s.clock.time ∧
    ¬30 * 1000 < elapsed (session true 30000).opened s.clock.time := by
  unfold State.Admits; decide +kernel

/-- The payload of a ring LOAD of generation `g` below 256 through slot 63, with a wrong manifest when `off` is not 0. -/
def ringLoad (g off : Byte) : List Byte := loadPayload [1, 0, g] 1 0x0F 0x3F [0, 0, 0] (g + 1 + 0x0F + 56 + off)

/-- The fields of a LOAD payload of the right length. -/
def argsOf (payload : List Byte) : LoadArgs :=
  (argLoad payload).getD { targetKind := 0, targetHigh := 0, targetLow := 0, usage := 0, laneMask := 0, transport := 0,
                           wrapped := 0, iv := 0, kcvBytes := [], manifest := 0 }

theorem witness_LoadsAreAccepted :
    let s := permitted gantry
    (∀ g ∈ [(202 : Byte), 245],
      let a := argsOf (ringLoad g 0)
      argLoad (ringLoad g 0) = some a ∧ a.targetKind = 0x01 ∧ a.targetHigh.toNat < 16 ∧ a.laneMask.toNat < 16 ∧
      a.transport.toNat = (63 : SlotIx).val ∧
      s.ring.position (a.target.setWidth 12) ≤ (s.store.geometry.ring : Int) - 1 - (s.ring.back : Int) ∧
      -(s.ring.back : Int) ≤ s.ring.position (a.target.setWidth 12) ∧
      (s.slot (s.ring.slotAt s.store.geometry (s.ring.position (a.target.setWidth 12)))).state = .blank ∧
      a.manifest = a.targetHigh + a.targetLow + a.laneMask + a.kcvBytes.foldl (· + ·) 0 + numByte s.store.geometry.ring +
        numByte s.store.geometry.head + 0x01) ∧
    s.Admits .site ∧ s.engine.permit = true ∧ s.idle = true ∧ s.engine.held = none ∧ s.ring.live = true ∧
    (s.slot 63).serves .transport = true ∧ (∀ i, s.protectedSlot i = false) ∧
    (let t := permitted part
     let p := loadPayload [2, 0, 0x3F] 3 0 0xFF [0, 0, 0] (0x3F + 3 + 56)
     let a := argsOf p
     argLoad p = some a ∧ (∀ j, (t.slot j).serves .transport = false) ∧ a.targetKind = 0x02 ∧
     a.targetLow.toNat = (63 : SlotIx).val ∧
     t.inRing 63 = false ∧ a.usage = 0x03 ∧ (t.slot 63).state = .blank ∧
     a.manifest = a.targetHigh + a.targetLow + a.laneMask + a.kcvBytes.foldl (· + ·) 0 + numByte t.store.geometry.ring +
        numByte t.store.geometry.head + a.usage) := by unfold State.Admits; decide +kernel

theorem witness_LoadsAreRefused :
    let s := permitted gantry
    let place := fun g : Gen => (s.store.geometry.head : Int) + ((s.ring.h : Int) + s.ring.position g) % s.store.geometry.ring
    s.Admits .site ∧ gantry.engine.permit = false ∧ s.engine.permit = true ∧
    (busyWith (.reservation 9 false) 5 s).idle = false ∧ s.idle = true ∧
    (holding (.program 20) 7 .site s).engine.held = some { op := .program 20, remaining := 7, by_ := .site } ∧
    ((holding (.eraseSlot 10) 7 .site s).engine.held = some { op := .eraseSlot 10, remaining := 7, by_ := .site } ∧
      (SlotOp.eraseSlot 10).isProgram = false ∧ (SlotOp.eraseSlot 10).targets 10 = true ∧ s.engine.held = none) ∧
    (s.ring.live = true ∧ (10 : Int) = place 202 ∧ (53 : Int) = place 245 ∧ (54 : Int) = place 198) ∧
    (s.ring.back = 2 ∧ s.store.geometry.ring = 48 ∧ s.ring.position 198 = -2 ∧ s.ring.position 197 = -3 ∧
      s.ring.position 245 = 45 ∧ s.ring.position 246 = 46) ∧
    (s.store.geometry.head = 8 ∧ (7 : Byte).toNat = (7 : SlotIx).val ∧ (56 : Byte).toNat = (56 : SlotIx).val ∧
      (8 : Byte).toNat = 8 ∧ (55 : Byte).toNat = 55 ∧ 64 ≤ (64 : Byte).toNat ∧ (15 : Byte).toNat < 16 ∧ 16 ≤ (16 : Byte).toNat) ∧
    ({ s with ring := { s.ring with live := false } }).ring.live = false ∧
    ({ s with protection := { s.protection with head := ⟨false, false, false, true⟩ } }).protection.head.lock = true ∧
    ({ s with protection := { s.protection with tail := ⟨true, false, false, false⟩ } }).protection.tail.effective = true ∧
    (s.slot 8).state ≠ .blank ∧ (s.slot 10).state = .blank ∧ (s.slot 7).state = .blank ∧ (s.slot 56).state = .blank ∧
    (s.slot 63).serves .transport = true ∧ (s.slot 0).serves .transport = false ∧
    (∀ j, (part.slot j).serves .transport = false) ∧ part.Admits .site := by unfold State.Admits; decide +kernel

/-- The gantry with the permit, and with slots 20 to 22 RETIRED. -/
def clearing : State :=
  ([20, 21, 22] : List SlotIx).foldl (fun s i => s.setSlot i { keySlot .tagRoot (some 1) 1 with state := .retired })
    (permitted gantry)

theorem witness_ErasesBegin :
    clearing.Admits .site ∧ clearing.engine.permit = true ∧ clearing.idle = true ∧ clearing.engine.held = none ∧
    (22 : Byte).toNat = (22 : SlotIx).val ∧ (2 : Byte).toNat = (2 : Fin 8).val ∧
    (∀ i, (SlotOp.eraseBank 2).targets i = true → clearing.protectedSlot i = false ∧ clearing.inService i = false) ∧
    (∀ i, (SlotOp.eraseSlot 22).targets i = true → clearing.protectedSlot i = false ∧ clearing.inService i = false) := by
  unfold State.Admits; decide +kernel

theorem witness_ErasesAreRefused :
    let s := clearing
    let locked := { s with protection := { s.protection with head := ⟨false, false, false, true⟩ } }
    let guarded := { s with protection := { s.protection with head := ⟨true, false, false, false⟩ } }
    s.Admits .site ∧ gantry.engine.permit = false ∧ s.engine.permit = true ∧ 64 ≤ (64 : Byte).toNat ∧ 8 ≤ (8 : Byte).toNat ∧
    (busyWith (.reservation 9 false) 5 s).idle = false ∧ s.idle = true ∧ (holding (.program 20) 7 .site s).engine.held ≠ none ∧
    (SlotOp.eraseBank 0).targets 7 = true ∧ locked.lockedSlot 7 = true ∧
    (∀ i, (SlotOp.eraseBank 0).targets i = true → guarded.lockedSlot i = false) ∧ guarded.protectedSlot 7 = true ∧
    (∀ i, (SlotOp.eraseBank 1).targets i = true → s.lockedSlot i = false ∧ s.protectedSlot i = false) ∧
    (SlotOp.eraseBank 1).targets 8 = true ∧ (s.slot 8).state = .loaded ∧ s.inWindow 8 = true ∧
    (s.slot 63).state = .loaded ∧ s.inRing 63 = false := by unfold State.Admits; decide +kernel

theorem witness_ErasesComplete :
    let s := busyWith (.slotOp (.eraseBank 2)) 55000
      (([16, 23] : List SlotIx).foldl (fun s i => s.setSlot i (Slot.cleared .erasing)) gantry)
    s.engine.active = some { op := .slotOp (.eraseBank 2), remaining := 55000 } ∧ (SlotOp.eraseBank 2).isProgram = false ∧
    (SlotOp.eraseBank 2).targets 16 = true ∧ (s.slot 16).state = .erasing ∧ (SlotOp.eraseBank 2).targets 23 = true ∧
    (s.slot 23).state = .erasing ∧ (16 : SlotIx) ∈ [(16 : SlotIx)] ∧ (23 : SlotIx) ∉ [(16 : SlotIx)] ∧
    (16 : SlotIx).val = 8 * (2 : Fin 8).val := by decide +kernel

theorem witness_ProgramsComplete :
    let s := fun (i : SlotIx) (x : Slot) =>
      busyWith (.slotOp (.program i)) 3000 (gantry.setSlot i { x with state := .programming })
    let next := s 9 (keySlot .tagRoot (some 201) 1)
    (∀ i : SlotIx, (s i Slot.empty).engine.active = some { op := .slotOp (.program i), remaining := 3000 }) ∧
    (s 7 Slot.empty).inRing 7 = false ∧ next.inRing 9 = true ∧ next.ring.live = true ∧
    (next.slot 9).generation = some (next.ring.standsFor next.store.geometry 9) ∧ next.ring.rotationPending = false ∧
    (({ next with ring := { next.ring with rotationPending := true } }).ring.rotationPending = true ∧ next.slotPosition 9 = 1) ∧
    ((s 9 (keySlot .tagRoot (some 203) 1)).slot 9).generation ≠ some (next.ring.standsFor next.store.geometry 9) := by
  decide +kernel

theorem witness_RetireCommand :
    let s := permitted gantry
    s.Admits .site ∧ gantry.engine.permit = false ∧ s.engine.permit = true ∧ 64 ≤ (64 : Byte).toNat ∧
    (({ s with protection := { s.protection with tail := ⟨false, false, false, true⟩ } }).lockedSlot 63 = true) ∧
    (∀ i, s.lockedSlot i = false) ∧ (s.slot 62).state ≠ .loaded ∧ (63 : Byte).toNat = (63 : SlotIx).val ∧
    (s.slot 63).state = .loaded ∧ (s.slot 8).state = .loaded ∧ s.inRing 8 = true := by unfold State.Admits; decide +kernel

theorem witness_SuspendAndResume :
    let at_ := fun (last : Option Time) (s : State) => { s with engine := { s.engine with lastResume := last } }
    let active := busyWith (.slotOp (.eraseSlot 20)) 100 gantry
    gantry.Admits .site ∧ active.Admits .site ∧
    (holding (.eraseSlot 20) 9 .site gantry).engine.held = some { op := .eraseSlot 20, remaining := 9, by_ := .site } ∧
    (holding (.eraseSlot 20) 9 .site gantry).idle = true ∧
    (busyWith (.reservation 9 false) 5 (holding (.eraseSlot 20) 9 .site gantry)).idle = false ∧
    (holding (.eraseSlot 20) 9 .auto gantry).engine.held = some { op := .eraseSlot 20, remaining := 9, by_ := .auto } ∧
    gantry.engine.held = none ∧ active.engine.active = some { op := .slotOp (.eraseSlot 20), remaining := 100 } ∧
    gantry.engine.active.map (·.op) ≠ some (.slotOp (.eraseSlot 20)) ∧
    (at_ (some (0 - 199)) active).tooSoon = true ∧ (at_ (some (0 - 200)) active).tooSoon = false ∧ active.tooSoon = false := by
  unfold State.Admits; decide +kernel

theorem witness_PositionArithmetic :
    let r := wrapPart.ring
    let geo := wrapPart.store.geometry
    (r.position 0 = r.position 0 ∧ (-2048 : Int) ≤ -2048 ∧ (2047 : Int) ≤ 2047) ∧ geo.Ok ∧ r.back ≤ geo.ring - 2 ∧ r.h < geo.ring ∧
    r.inRange geo (-2) = true ∧ r.inRange geo 45 = true ∧ geo.area 8 = .ring ∧ geo.area 55 = .ring := by
  unfold Geometry.Ok; decide +kernel

theorem witness_AdvanceMovesTheRing :
    wrapPart.Admits .site ∧ wrapPart.power = .running ∧ wrapPart.nextReady = true ∧ wrapPart.ring.live = true ∧
    0 < wrapPart.ring.period ∧ wrapPart.ring.rotationPending = false ∧ part.nextReady = false ∧ part.ring.live = true ∧
    ({ part with ring := { part.ring with live := false } }).ring.live = false ∧
    (let late := wrapPart.setSlot 55 Slot.empty
     late.nextReady = false ∧ late.power = .running ∧ 0 < late.ring.period ∧ late.ring.live = true) := by
  unfold State.Admits; decide +kernel

theorem witness_TimePassesAndPulsesEnd :
    let late := { wrapPart with ring := { wrapPart.ring with rotationPending := true } }
    late.Admits .site ∧ late.ring.rotationPending = true ∧ wrapPart.ring.rotationPending = false ∧ late.power = .running ∧
    State.reset.power = .starting ∧ (after .powerLoss part).power = .off ∧ (after .rstAssert part).power = .held ∧
    part.ring.period = 0 ∧ 0 < wrapPart.ring.period ∧ wrapPart.ring.live = true ∧
    wrapPart.ring.secondRun + 11999999 < wrapPart.ring.remaining * 1000000 ∧
    wrapPart.ring.remaining * 1000000 ≤ wrapPart.ring.secondRun + 12000000 := by unfold State.Admits; decide +kernel

theorem witness_SettingsAreAccepted :
    let s := permitted part
    s.Admits .site ∧ s.engine.permit = true ∧ s.idle = true ∧ s.engine.held = none ∧ s.protection.frozen = false ∧
    (∀ i : SlotIx, (s.slot i).state ≠ .loaded) ∧ ¬s.ring.back < min 0 (s.store.geometry.ring - 2) ∧
    (∀ geo ∈ [({ head := 31, ring := 2 } : Geometry), { head := 8, ring := 48 }, { head := 31, ring := 33 }], geo.Ok) ∧
    (((0x0F : Byte) ++ (0xFF : Byte) : BitVec 16).toNat = 4095) ∧
    (∀ i, (s.slot i).state = .blank) ∧ s.protection.head.lock = false ∧
    s.protection.tail.lock = false ∧ (15 : Byte).toNat < 16 := by
  unfold State.Admits Geometry.Ok; decide +kernel

theorem witness_SettingsAndRecordsAreRefused :
    let s := permitted gantry
    let frozen := { s with protection := { s.protection with freeze := true, wpl := false } }
    let locked := { s with protection := { s.protection with head := ⟨false, false, false, true⟩ } }
    let unset := { s with ring := { s.ring with live := false } }
    s.Admits .site ∧ gantry.engine.permit = false ∧ s.engine.permit = true ∧ (busyWith (.reservation 9 false) 5 s).idle = false ∧
    s.idle = true ∧ (holding (.program 20) 7 .site s).engine.held ≠ none ∧ s.engine.held = none ∧
    frozen.protection.frozen = true ∧ s.protection.frozen = false ∧
    (let t := s.setSlot 53 (keySlot .tagRoot (some 245) 1)
     t.ring.live = true ∧ t.ring.back = 2 ∧ (t.slot 53).state = .loaded ∧ t.inRing 53 = true ∧ t.store.geometry.ring = 48 ∧
     (53 - (t.store.geometry.head : Int) - (t.ring.h : Int)) % (t.store.geometry.ring : Int) = 45) ∧
    ¬({ head := 8, ring := 49 } : Geometry).Ok ∧ ¬({ head := 8, ring := 1 } : Geometry).Ok ∧ 16 ≤ (16 : Byte).toNat ∧
    (s.slot 8).state ≠ .blank ∧ s.inRing 8 = true ∧
    (let t := permitted (part.setSlot 0 (keySlot .receipt none 1))
     ({ head := 0, ring := 48 } : Geometry).Ok ∧ (t.slot 0).state ≠ .blank ∧ t.inRing 0 = false ∧
     ({ head := 0, ring := 48 } : Geometry).area 0 = .ring) ∧
    (let t := permitted (part.setSlot 63 (keySlot .transport none 1))
     ({ head := 30, ring := 34 } : Geometry).Ok ∧ (t.slot 63).state ≠ .blank ∧ t.inRing 63 = false ∧
     ({ head := 30, ring := 34 } : Geometry).area 63 = .ring) ∧
    locked.protection.head.lock = true ∧ unset.ring.live = false ∧ s.ring.live = true ∧
    (unset.Admits .site ∧ unset.idle = true ∧ ((1 : Byte) ++ (44 : Byte) : BitVec 16).toNat = 300) ∧
    s.counter.state ≠ .unset ∧ beNat [0, 0, 0x2B, 0xFE] < s.counter.next := by
  unfold State.Admits Geometry.Ok; decide +kernel

/-- A slot of a fixed area that a new geometry would put in the other fixed area (R41). With H and T at most 31 that takes a
geometry outside the law of R22, which no run reaches. -/
theorem witness_SettingsAndRecordsAreRefused_areaInUse :
    let s := { part with store := { part.store with geometry := { head := 40, ring := 2 } } }.setSlot 35 (keySlot .receipt none 1)
    let geo : Geometry := { head := 8, ring := 25 }
    geo.Ok ∧ (∀ i, (s.slot i).state ≠ .blank → s.inRing i = false ∧ geo.area i ≠ .ring) ∧
    (s.slot 35).state ≠ .blank ∧ geo.area 35 ≠ s.areaOf 35 := by unfold Geometry.Ok; decide +kernel

theorem witness_VolatileProtection :
    part.Admits .site ∧ part.protection.frozen = false ∧
    (let s := { part with protection := { part.protection with freeze := true, wpl := false } }
     s.Admits .site ∧ s.protection.frozen = true) ∧
    (0 : Byte) ≠ 0x01 ∧ (3 : Byte) ≠ 0x02 ∧ (2 : Byte) ≠ 0 ∧ (2 : Byte) ≠ 0x01 := by
  unfold State.Admits; decide

theorem witness_SettingsComplete (command : SettingsCommand) :
    (busyWith (.settings command gantry.settings) 6000 gantry).engine.active =
      some { op := .settings command gantry.settings, remaining := 6000 } := rfl

theorem witness_GeometryCompletes :
    (busyWith (.settings (.geometry 5) part.settings) 6000 part).engine.active =
      some { op := .settings (.geometry 5) part.settings, remaining := 6000 } ∧
    ((charging.lane 0).sessions[(1 : EntryIx)]).session ≠ none ∧
    (∀ e : EntryIx, ((charging.lane 1).sessions[e]).session = none) := ⟨rfl, by decide +kernel, by decide +kernel⟩

theorem witness_SettingsFail (command : SettingsCommand) :
    (busyWith (.settings command gantry.settings) 6000 gantry).engine.active =
      some { op := .settings command gantry.settings, remaining := 6000 } := rfl

theorem witness_RecordCommandsBegin :
    let s := permitted { gantry with ring := { gantry.ring with live := false } }
    s.Admits .site ∧ s.engine.permit = true ∧ s.idle = true ∧ s.engine.held = none ∧ s.ring.live = false ∧
    ((0 : Byte) ++ (200 : Byte) : BitVec 16) = (200 : Gen).setWidth 16 ∧
    (s.inRing 8 = true ∧ (s.slot 8).state = .loaded ∧ (s.slot 8).generation = some 200) ∧
    (∀ j < (8 : SlotIx), s.inRing j = false) ∧ s.counter.next ≤ beNat [0, 0, 0x2B, 0xFF] ∧ part.counter.state = .unset := by
  unfold State.Admits; decide +kernel

theorem witness_RecordCommandsComplete (base : Nat) :
    (busyWith (.setCurrent 8 200 0) 1000 gantry).engine.active = some { op := .setCurrent 8 200 0, remaining := 1000 } ∧
    (busyWith (.setCounter base 4294967295) 1000 gantry).engine.active =
      some { op := .setCounter base 4294967295, remaining := 1000 } := ⟨rfl, rfl⟩

theorem witness_InternalRecordsComplete (retry : Bool) :
    (busyWith (.reservation 16384 retry) 1000 gantry).engine.active = some { op := .reservation 16384 retry, remaining := 1000 } ∧
    (busyWith (.genRecord 201 1 retry) 1000 gantry).engine.active = some { op := .genRecord 201 1 retry, remaining := 1000 } ∧
    gantry.engine.genRequest = none ∧ gantry.requestGenRecord.engine.genRequest ≠ none := ⟨rfl, rfl, rfl, by decide +kernel⟩

theorem witness_RetireMarksComplete (retry : Bool) :
    (busyWith (.retireMarks [54] retry) 1000 gantry).engine.active = some { op := .retireMarks [54] retry, remaining := 1000 } ∧
    (54 : SlotIx) ∈ [(54 : SlotIx)] ∧ (55 : SlotIx) ∉ [(54 : SlotIx)] := ⟨rfl, by decide, by decide⟩

theorem witness_InternalWritesGoInOrder :
    let retired := gantry.setSlot 8 (gantry.slot 8).retire
    (gantry.requestReservation.power = .running ∧ gantry.requestReservation.requestOutstanding = true ∧
      gantry.requestReservation.engine.active = none) ∧
    (gantry.requestGenRecord.requestOutstanding = true ∧ gantry.requestGenRecord.engine.counterRequest = none) ∧
    (retired.retireOutstanding = true ∧ retired.engine.counterRequest = none ∧ retired.engine.genRequest = none) ∧
    (busyWith (.slotOp (.eraseSlot 20)) 9 retired).requestOutstanding = true ∧ (SlotOp.eraseSlot 20).isProgram = false ∧
    (SlotOp.program 20).isProgram = true ∧ retired.engine.held = none ∧ gantry.requestOutstanding = false ∧
    (holding (.eraseSlot 20) 9 .auto gantry).requestOutstanding = false ∧
    (holding (.eraseSlot 20) 9 .site gantry).requestOutstanding = false := by decide +kernel

end Sys2Proof.Tests
end

/-! PROOFS. The position arithmetic of the generation ring (R24 to R26). A generation's position is its residue modulo 4096 in
the window −2048 to 2047; a ring slot's position is its residue modulo N in the ring range −B to N−1−B. Each window holds one
number of each residue class, so that each pair of maps is inverse. -/

namespace Sys2Proof.Machine

/-! ### Positions of generations (R24) -/

theorem Ring.position_bounds (r : Ring) (g : Gen) : -2048 ≤ r.position g ∧ r.position g ≤ 2047 := by
  unfold Ring.position; omega

/-- The position is congruent to the distance from C. -/
theorem Ring.position_emod (r : Ring) (g : Gen) : r.position g % 4096 = ((g.toNat : Int) - r.c.toNat) % 4096 := by
  unfold Ring.position; omega

/-- The window −2048 to 2047 holds one number of each residue class modulo 4096. -/
theorem Ring.position_eq_of_emod_eq (r : Ring) (g : Gen) {p : Int} (hlow : -2048 ≤ p) (hhigh : p ≤ 2047)
    (hp : ((g.toNat : Int) - r.c.toNat) % 4096 = p % 4096) : r.position g = p := by
  have hpos := r.position_emod g
  have hbounds := r.position_bounds g
  omega

theorem Ring.position_current (r : Ring) : r.position r.c = 0 :=
  r.position_eq_of_emod_eq r.c (by decide) (by decide) (by omega)

theorem Ring.position_next (r : Ring) : r.position (r.c + 1) = 1 := by
  have hnext : (r.c + 1).toNat = (r.c.toNat + 1) % 4096 := BitVec.toNat_add r.c 1
  exact r.position_eq_of_emod_eq _ (by decide) (by decide) (by omega)

theorem Ring.position_injective (r : Ring) : Function.Injective r.position := by
  intro g g' h
  have hdist : ((g.toNat : Int) - r.c.toNat) % 4096 = ((g'.toNat : Int) - r.c.toNat) % 4096 := by
    rw [← r.position_emod g, ← r.position_emod g', h]
  have hg : g.toNat < 4096 := g.isLt
  have hg' : g'.toNat < 4096 := g'.isLt
  exact BitVec.eq_of_toNat_eq (by omega)

theorem Ring.position_genAt (r : Ring) {p : Int} (hlow : -2048 ≤ p) (hhigh : p ≤ 2047) : r.position (r.genAt p) = p := by
  have hgen : (r.genAt p).toNat = (((r.c.toNat : Int) + p) % 4096).toNat := BitVec.toNat_ofInt (r.c.toNat + p)
  exact r.position_eq_of_emod_eq _ hlow hhigh (by omega)

/-! ### The ring area and the ring range (R1, R25) -/

theorem Geometry.area_eq_ring_iff (geo : Geometry) (i : SlotIx) :
    geo.area i = .ring ↔ geo.head ≤ i.val ∧ i.val < geo.head + geo.ring := by
  unfold Geometry.area
  split
  case isTrue hhead => exact iff_of_false Area.noConfusion (by omega)
  case isFalse hhead =>
    split
    case isTrue hring => exact iff_of_true rfl (by omega)
    case isFalse hring => exact iff_of_false Area.noConfusion (by omega)

theorem Ring.inRange_iff (r : Ring) (geo : Geometry) (p : Int) :
    r.inRange geo p = true ↔ -(r.back : Int) ≤ p ∧ p ≤ (geo.ring : Int) - 1 - r.back := by
  unfold Ring.inRange
  rw [Bool.and_eq_true, decide_eq_true_iff, decide_eq_true_iff]

/-- The ring range holds at most one number of each residue class modulo N. -/
theorem Ring.inRange_eq_of_emod_eq (r : Ring) (geo : Geometry) {p q : Int} (hp : r.inRange geo p = true)
    (hq : r.inRange geo q = true) (h : p % geo.ring = q % geo.ring) : p = q := by
  rw [Ring.inRange_iff] at hp hq
  have hshift : p + r.back = q + r.back := calc
    p + r.back = (p + r.back) % geo.ring := (Int.emod_eq_of_lt (by omega) (by omega)).symm
    _ = (q + r.back) % geo.ring := (Int.emod_add_cancel_right _).mpr h
    _ = q + r.back := Int.emod_eq_of_lt (by omega) (by omega)
  omega

/-! ### The position of a ring slot and the slot of a position (R25, R26) -/

/-- The position of a slot is congruent modulo N to its offset from the head. -/
theorem Ring.slotPosition_emod (r : Ring) (geo : Geometry) (i : SlotIx) :
    r.slotPosition geo i % geo.ring = ((i.val : Int) - geo.head - r.h) % geo.ring := by
  have hoffset : r.offset geo i % geo.ring = ((i.val : Int) - geo.head - r.h) % geo.ring := Int.emod_emod _ _
  unfold Ring.slotPosition
  dsimp only
  split
  · exact hoffset
  · rw [Int.sub_emod_right, hoffset]

theorem Ring.slotPosition_inRange (r : Ring) (geo : Geometry) (i : SlotIx) (hback : r.back < geo.ring) :
    r.inRange geo (r.slotPosition geo i) = true := by
  have hlow : 0 ≤ r.offset geo i := Int.emod_nonneg _ (by omega)
  have hhigh : r.offset geo i < geo.ring := Int.emod_lt_of_pos _ (by omega)
  rw [Ring.inRange_iff]
  unfold Ring.slotPosition
  dsimp only
  split
  · omega
  · omega

/-- Under the law of the geometry the slot of a position is H + ((h + p) mod N), with no wrap at 64. -/
theorem Ring.slotAt_val (r : Ring) (geo : Geometry) (p : Int) (hgeo : geo.Ok) :
    ((r.slotAt geo p).val : Int) = geo.head + (r.h + p) % geo.ring := by
  obtain ⟨-, hring, -, hfits, -⟩ := hgeo
  have hlow : 0 ≤ ((r.h : Int) + p) % geo.ring := Int.emod_nonneg _ (by omega)
  have hhigh : ((r.h : Int) + p) % geo.ring < geo.ring := Int.emod_lt_of_pos _ (by omega)
  have hval : (r.slotAt geo p).val = (geo.head + (((r.h : Int) + p) % geo.ring).toNat) % 64 := rfl
  omega

theorem Ring.slotAt_area (r : Ring) (geo : Geometry) (p : Int) (hgeo : geo.Ok) : geo.area (r.slotAt geo p) = .ring := by
  have hval := r.slotAt_val geo p hgeo
  obtain ⟨-, hring, -, -, -⟩ := hgeo
  have hlow : 0 ≤ ((r.h : Int) + p) % geo.ring := Int.emod_nonneg _ (by omega)
  have hhigh : ((r.h : Int) + p) % geo.ring < geo.ring := Int.emod_lt_of_pos _ (by omega)
  exact (geo.area_eq_ring_iff _).mpr (by omega)

theorem Ring.slotPosition_slotAt (r : Ring) (geo : Geometry) {p : Int} (hgeo : geo.Ok) (hback : r.back < geo.ring)
    (hp : r.inRange geo p = true) : r.slotPosition geo (r.slotAt geo p) = p := by
  refine r.inRange_eq_of_emod_eq geo (r.slotPosition_inRange geo _ hback) hp ?_
  calc r.slotPosition geo (r.slotAt geo p) % geo.ring
      = (((r.slotAt geo p).val : Int) - geo.head - r.h) % geo.ring := r.slotPosition_emod geo _
    _ = ((r.h + p) % geo.ring - r.h) % geo.ring := by rw [r.slotAt_val geo p hgeo]; congr 1; omega
    _ = (r.h + p - r.h) % geo.ring := Int.emod_sub_emod _ _ _
    _ = p % geo.ring := by congr 1; omega

theorem Ring.slotAt_slotPosition (r : Ring) (geo : Geometry) {i : SlotIx} (hgeo : geo.Ok) (hi : geo.area i = .ring) :
    r.slotAt geo (r.slotPosition geo i) = i := by
  rw [Geometry.area_eq_ring_iff] at hi
  have hplace : ((r.h : Int) + r.slotPosition geo i) % geo.ring = i.val - geo.head := calc
    ((r.h : Int) + r.slotPosition geo i) % geo.ring
      = (r.h + r.slotPosition geo i % geo.ring) % geo.ring := (Int.add_emod_emod _ _ _).symm
    _ = (r.h + ((i.val : Int) - geo.head - r.h)) % geo.ring := by rw [r.slotPosition_emod geo i, Int.add_emod_emod]
    _ = ((i.val : Int) - geo.head) % geo.ring := by rw [Int.add_comm, Int.sub_add_cancel]
    _ = i.val - geo.head := Int.emod_eq_of_lt (by omega) (by omega)
  have hval := r.slotAt_val geo (r.slotPosition geo i) hgeo
  exact Fin.ext (by omega)

/-- Settles O47: positions of generations are residues modulo 4096, and under the law of the geometry the maps between the ring
range and the ring slots are inverse, since the ring range holds one number of each residue class modulo N. -/
theorem positionArithmetic : Obligations.PositionArithmetic := by
  have back_lt : ∀ (r : Ring) (geo : Geometry), geo.Ok → r.back ≤ geo.ring - 2 → r.back < geo.ring := by
    rintro r geo ⟨-, hring, -, -, -⟩ hback
    omega
  refine ⟨fun r g => ⟨rfl, r.position_bounds g⟩, fun r => ⟨r.position_current, r.position_next⟩,
    fun r g g' h => r.position_injective h, fun r p => r.position_genAt, ?slotOfPosition, ?positionOfSlot⟩
  case slotOfPosition =>
    intro r geo p hgeo hback _ hp
    exact ⟨r.slotAt_area geo p hgeo, r.slotPosition_slotAt geo hgeo (back_lt r geo hgeo hback) hp⟩
  case positionOfSlot =>
    intro r geo i hgeo hback _ hi
    exact ⟨r.slotPosition_inRange geo i (back_lt r geo hgeo hback), r.slotAt_slotPosition geo hgeo hi⟩

end Sys2Proof.Machine

/-! PROOFS. Resolution (R51), one row of the table to a lemma. A row's hypotheses are the checks that pass before it, in the
order of the table, and then the check that fails. -/

namespace Sys2Proof.Machine

section
variable {s : State} {l : LaneIx} {g : Gen}

/-! ### Checks 1 to 3: the ring state and the acceptance window -/

theorem State.resolve_of_unset (hunset : s.ring.live = false) : s.resolve l g = .error .noGeneration := if_pos hunset

variable (hlive : s.ring.live = true)
include hlive

theorem State.resolve_of_behind (hbehind : s.ring.position g < -(s.ring.back : Int)) : s.resolve l g = .error .tooOld := by
  unfold State.resolve
  rw [if_neg (ne_false_of_eq_true hlive), if_pos hbehind]

theorem State.resolve_of_beyond (hlow : -(s.ring.back : Int) ≤ s.ring.position g)
    (hbeyond : (s.ring.ahead : Int) < s.ring.position g) : s.resolve l g = .error .tooNew := by
  unfold State.resolve
  rw [if_neg (ne_false_of_eq_true hlive), if_neg (Int.not_lt.mpr hlow), if_pos hbeyond]

/-! ### Checks 4 to 6: the slot at the generation's position -/

variable (hlow : -(s.ring.back : Int) ≤ s.ring.position g) (hhigh : s.ring.position g ≤ (s.ring.ahead : Int))
  {i : SlotIx} (hplace : s.ring.slotAt s.store.geometry (s.ring.position g) = i)
include hlow hhigh hplace

/-- A LIVE ring and a position in the acceptance window leave the checks of the slot. -/
theorem State.resolve_of_inWindow : s.resolve l g =
    if (s.slot i).state = .retired then .error .genRetired
    else if ¬((s.slot i).state = .loaded ∧ (s.slot i).generation = some g) then .error .genMissing
    else if (s.slot i).allows l = false then .error .laneDenied
    else .ok i := by
  subst hplace
  unfold State.resolve
  rw [if_neg (ne_false_of_eq_true hlive), if_neg (Int.not_lt.mpr hlow), if_neg (Int.not_lt.mpr hhigh)]

theorem State.resolve_of_retired (hretired : (s.slot i).state = .retired) : s.resolve l g = .error .genRetired := by
  rw [State.resolve_of_inWindow hlive hlow hhigh hplace, if_pos hretired]

theorem State.resolve_of_missing (hretired : (s.slot i).state ≠ .retired)
    (hmissing : ¬((s.slot i).state = .loaded ∧ (s.slot i).generation = some g)) : s.resolve l g = .error .genMissing := by
  rw [State.resolve_of_inWindow hlive hlow hhigh hplace, if_neg hretired, if_pos hmissing]

/-- A slot that is LOADED with the generation leaves the check of its lane mask. -/
theorem State.resolve_of_loaded (hloaded : (s.slot i).state = .loaded) (hgen : (s.slot i).generation = some g) :
    s.resolve l g = if (s.slot i).allows l = false then .error .laneDenied else .ok i := by
  have hretired : (s.slot i).state ≠ .retired := hloaded ▸ SlotState.noConfusion
  rw [State.resolve_of_inWindow hlive hlow hhigh hplace, if_neg hretired, if_neg (not_not_intro ⟨hloaded, hgen⟩)]

theorem State.resolve_of_denied (hloaded : (s.slot i).state = .loaded) (hgen : (s.slot i).generation = some g)
    (hdenied : (s.slot i).allows l = false) : s.resolve l g = .error .laneDenied := by
  rw [State.resolve_of_loaded hlive hlow hhigh hplace hloaded hgen, if_pos hdenied]

theorem State.resolve_of_allowed (hloaded : (s.slot i).state = .loaded) (hgen : (s.slot i).generation = some g)
    (hallowed : (s.slot i).allows l = true) : s.resolve l g = .ok i := by
  rw [State.resolve_of_loaded hlive hlow hhigh hplace hloaded hgen, if_neg (ne_false_of_eq_true hallowed)]

end

/-- Settles O32: the rows of R51's table. A slot LOADED with the generation passes checks 4 and 5, and its lane mask decides. -/
theorem resolutionRows : Obligations.ResolutionRows := by
  intro s l g p i
  refine ⟨State.resolve_of_unset, fun hlive => ⟨State.resolve_of_behind hlive, State.resolve_of_beyond hlive, ?slotChecks⟩⟩
  case slotChecks =>
    intro hlow hhigh
    exact ⟨State.resolve_of_retired hlive hlow hhigh rfl, State.resolve_of_missing hlive hlow hhigh rfl,
      fun hloaded hgen => ⟨State.resolve_of_denied hlive hlow hhigh rfl hloaded hgen,
        State.resolve_of_allowed hlive hlow hhigh rfl hloaded hgen⟩⟩

end Sys2Proof.Machine

/-! PROOFS. READ_COUNTS and CLEAR_COUNTS (R181). The named port is the one that the payload byte's number names; the frame's own
effect, which clears the reset-arm flag (R184), touches no port unit, so that it commutes with the write of the counters. -/

namespace Sys2Proof.Machine

/-! ### The port a byte names (R181) -/

theorem portOf_of_toNat_eq_four {b : Byte} (hb : b.toNat = 4) : portOf b = some .site := by
  unfold portOf
  rw [dif_neg (by omega), if_pos hb]

theorem portOf_of_toNat_eq_lane {b : Byte} {l : LaneIx} (hb : b.toNat = l.val) : portOf b = some (.lane l) := by
  have hlane : b.toNat < 4 := hb ▸ l.isLt
  have hl : (⟨b.toNat, hlane⟩ : LaneIx) = l := Fin.ext hb
  unfold portOf
  rw [dif_pos hlane, hl]

theorem portOf_of_four_lt {b : Byte} (hb : 4 < b.toNat) : portOf b = none := by
  unfold portOf
  rw [dif_neg (by omega), if_neg (by omega)]

/-! ### The reset-arm flag and the port units (R184) -/

@[simp] theorem State.port_disarm (s : State) (p q : Port) : (s.disarm p).port q = s.port q := by
  cases p <;> cases q <;> rfl

theorem State.disarm_setPort (s : State) (p q : Port) (x : PortUnit) :
    (s.setPort q x).disarm p = (s.disarm p).setPort q x := by
  cases p <;> cases q <;> rfl

/-! ### The commands on a READY site port -/

section
variable {s : State} {b : Byte} {p : Port} (hadmits : s.Admits .site)
include hadmits

/-- A site command with one payload byte takes its rule on a READY site port. -/
theorem State.command_site_byte (rule : Byte → State → Reply) :
    s.command .site false [b] (argByte [b]) rule =
      (rule b (s.disarm .site)).1.answer .site (some (rule b (s.disarm .site)).2) :=
  State.command_ready false hadmits (by simp) b rule

theorem exec_readCounts_of_portOf (hport : portOf b = some p) :
    exec (.readCounts [b]) s = .next (s.heard .site .ok
      [b, (s.port p).state.byte, (s.port p).checkCount, (s.port p).frameCount, (s.port p).commandCount]) := by
  change execReadCounts [b] s = _
  simp only [execReadCounts, State.command_site_byte hadmits, hport, reply, State.port_disarm, State.heard]

theorem exec_readCounts_of_no_port (hport : portOf b = none) :
    exec (.readCounts [b]) s = .next (s.heard .site .badArgument []) := by
  change execReadCounts [b] s = _
  simp only [execReadCounts, State.command_site_byte hadmits, hport, refuse, reply, State.heard]

theorem exec_clearCounts_of_portOf (hport : portOf b = some p) :
    exec (.clearCounts [b]) s = .next ((s.setPort p (s.port p).clearCounts).heard .site .ok []) := by
  change execClearCounts [b] s = _
  simp only [execClearCounts, State.command_site_byte hadmits, hport, reply, State.port_disarm, State.heard,
    State.disarm_setPort]

theorem exec_clearCounts_of_no_port (hport : portOf b = none) :
    exec (.clearCounts [b]) s = .next (s.heard .site .badArgument []) := by
  change execClearCounts [b] s = _
  simp only [execClearCounts, State.command_site_byte hadmits, hport, refuse, reply, State.heard]

end

/-- Settles O21: a byte of 0 to 4 names a port, whose counters are read or cleared; a higher byte names none and is refused. -/
theorem countsAreReadAndCleared : Obligations.CountsAreReadAndCleared := by
  refine ⟨fun s b p hadmits hnamed => ?named, fun s b hadmits hb => ?unnamed⟩
  case named =>
    have hport : portOf b = some p := by
      obtain ⟨hb, rfl⟩ | ⟨l, hb, rfl⟩ := hnamed
      · exact portOf_of_toNat_eq_four hb
      · exact portOf_of_toNat_eq_lane hb
    exact ⟨exec_readCounts_of_portOf hadmits hport, exec_clearCounts_of_portOf hadmits hport⟩
  case unnamed =>
    have hport : portOf b = none := portOf_of_four_lt hb
    exact ⟨exec_readCounts_of_no_port hadmits hport, exec_clearCounts_of_no_port hadmits hport⟩

end Sys2Proof.Machine

/-! PROOFS. What the laws of the part read of a state, and the moves that change it. Every command is a chain of moves, so that a
law is kept by every command once every move keeps it. -/

namespace Sys2Proof.Machine

/-! ### What the laws read -/

/-- The queues and sessions of a lane. -/
structure LaneView where
  jobs : List Job
  results : List Result
  counterWait : Bool
  sessions : Vector Entry 4

def Lane.view (x : Lane) : LaneView :=
  { jobs := x.jobs, results := x.results, counterWait := x.counterWait, sessions := x.sessions }

/-- The piece of work in the cipher engine without the occupancy still to run. -/
structure WorkView where
  requester : Port
  detached : Bool
  task : Task

def Work.view (w : Work) : WorkView := { requester := w.requester, detached := w.detached, task := w.task }

/-- The part as the laws of `Safety` read it. -/
structure View where
  pending : List Instr
  power : Power
  rst : Bool
  store : KeyStore
  settingsRecord : NvRecord Settings
  counterRecord : NvRecord Nat
  live : Bool
  c : Gen
  h : Nat
  back : Nat
  ahead : Nat
  lanes : LaneIx → LaneView
  work : Option WorkView
  cache : List CacheEntry
  counter : Counter
  active : Option Operation
  held : Option HeldOp
  counterRequest : Option CounterRequest
  lock : FixedArea → Bool

def State.view (s : State) : View :=
  { pending := s.pending, power := s.power, rst := s.rst, store := s.store, settingsRecord := s.array.settings,
    counterRecord := s.array.counter, live := s.ring.live, c := s.ring.c, h := s.ring.h, back := s.ring.back,
    ahead := s.ring.ahead, lanes := fun l => (s.lane l).view, work := s.cipher.work.map Work.view, cache := s.cache,
    counter := s.counter, active := s.engine.active.map (·.op), held := s.engine.held,
    counterRequest := s.engine.counterRequest, lock := fun a => (s.protection.area a).lock }

/-- Two states that no law tells apart. -/
def Alike (s t : State) : Prop := t.view = s.view

theorem Alike.refl (s : State) : Alike s s := rfl
theorem Alike.symm {s t : State} (h : Alike s t) : Alike t s := Eq.symm h
theorem Alike.trans {s t u : State} (h : Alike s t) (h' : Alike t u) : Alike s u := Eq.trans h' h

section
variable {s t : State} (hst : Alike s t)
include hst

theorem Alike.pending : t.pending = s.pending := congrArg View.pending hst
theorem Alike.power : t.power = s.power := congrArg View.power hst
theorem Alike.rst : t.rst = s.rst := congrArg View.rst hst
theorem Alike.store : t.store = s.store := congrArg View.store hst
theorem Alike.settingsRecord : t.array.settings = s.array.settings := congrArg View.settingsRecord hst
theorem Alike.counterRecord : t.array.counter = s.array.counter := congrArg View.counterRecord hst
theorem Alike.live : t.ring.live = s.ring.live := congrArg View.live hst
theorem Alike.c : t.ring.c = s.ring.c := congrArg View.c hst
theorem Alike.h : t.ring.h = s.ring.h := congrArg View.h hst
theorem Alike.back : t.ring.back = s.ring.back := congrArg View.back hst
theorem Alike.ahead : t.ring.ahead = s.ring.ahead := congrArg View.ahead hst
theorem Alike.lane (l : LaneIx) : (t.lane l).view = (s.lane l).view := congrFun (congrArg View.lanes hst) l
theorem Alike.jobs (l : LaneIx) : (t.lane l).jobs = (s.lane l).jobs := congrArg LaneView.jobs (hst.lane l)
theorem Alike.results (l : LaneIx) : (t.lane l).results = (s.lane l).results := congrArg LaneView.results (hst.lane l)
theorem Alike.counterWait (l : LaneIx) : (t.lane l).counterWait = (s.lane l).counterWait :=
  congrArg LaneView.counterWait (hst.lane l)
theorem Alike.sessions (l : LaneIx) : (t.lane l).sessions = (s.lane l).sessions := congrArg LaneView.sessions (hst.lane l)
theorem Alike.work : t.cipher.work.map Work.view = s.cipher.work.map Work.view := congrArg View.work hst
theorem Alike.cache : t.cache = s.cache := congrArg View.cache hst
theorem Alike.counter : t.counter = s.counter := congrArg View.counter hst
theorem Alike.active : t.engine.active.map (·.op) = s.engine.active.map (·.op) := congrArg View.active hst
theorem Alike.held : t.engine.held = s.engine.held := congrArg View.held hst
theorem Alike.counterRequest : t.engine.counterRequest = s.engine.counterRequest := congrArg View.counterRequest hst
theorem Alike.lock (a : FixedArea) : (t.protection.area a).lock = (s.protection.area a).lock :=
  congrFun (congrArg View.lock hst) a

theorem Alike.slot (i : SlotIx) : t.slot i = s.slot i := by simp only [State.slot, hst.store]
theorem Alike.areaOf (i : SlotIx) : t.areaOf i = s.areaOf i := by simp only [State.areaOf, hst.store]
theorem Alike.inRing (i : SlotIx) : t.inRing i = s.inRing i := by simp only [State.inRing, hst.areaOf]
theorem Alike.lockedSlot (i : SlotIx) : t.lockedSlot i = s.lockedSlot i := by
  simp only [State.lockedSlot, hst.areaOf, hst.lock]

end

/-! ### Updates that no law reads -/

theorem Lane.flag_view (f : LaneFlag) (x : Lane) : (x.flag f).view = x.view := by
  unfold Lane.flag
  split
  · rfl
  · rfl

/-- A change of the lanes that keeps what the laws read of each. -/
theorem alike_mapLanesAt (s : State) {f : LaneIx → Lane → Lane} (hf : ∀ l x, (f l x).view = x.view) :
    Alike s (s.mapLanesAt f) := by
  have hl : (fun l => ((s.mapLanesAt f).lane l).view) = fun l => (s.lane l).view := by
    funext l
    rw [State.lane_mapLanesAt, hf]
  unfold Alike State.view
  rw [hl]
  rfl

theorem alike_mapLanes (s : State) {f : Lane → Lane} (hf : ∀ x, (f x).view = x.view) : Alike s (s.mapLanes f) :=
  alike_mapLanesAt s fun _ => hf

theorem alike_flagLanes (s : State) (f : LaneFlag) : Alike s (s.flagLanes f) := alike_mapLanes s (Lane.flag_view f)

theorem alike_setLane (s : State) (l : LaneIx) {x : Lane} (hx : x.view = (s.lane l).view) : Alike s (s.setLane l x) := by
  have hl : (fun k => ((s.setLane l x).lane k).view) = fun k => (s.lane k).view := by
    funext k
    rw [State.lane_setLane]
    split
    · subst l; exact hx
    · rfl
  unfold Alike State.view
  rw [hl]
  rfl

theorem alike_setPort (s : State) (p : Port) (x : PortUnit) : Alike s (s.setPort p x) := by
  cases p with
  | lane l => exact alike_setLane s l rfl
  | site => rfl

theorem alike_answer (s : State) (p : Port) (r : Option Response) : Alike s (s.answer p r) := alike_setPort ..

theorem alike_disarm (s : State) (p : Port) : Alike s (s.disarm p) := by cases p <;> rfl

theorem alike_flagSite (s : State) (f : SiteFlag) : Alike s (s.flagSite f) := rfl

theorem alike_outcome (s : State) (k : OutcomeKind) (a : Target) (c : Code) (good : Bool) :
    Alike s (s.outcome k a c good) := rfl

theorem alike_spendPermit (s : State) : Alike s s.spendPermit := rfl

theorem alike_countError (s : State) (p : Port) (k : ErrorKind) : Alike s (s.countError p k) := by
  unfold State.countError
  dsimp only
  split
  · exact (alike_setPort ..).trans (alike_flagSite ..)
  · exact alike_setPort ..

@[simp] theorem State.mapNvSlots_settingsRecord (s : State) (f : SlotIx → NvSlot → NvSlot) :
    (s.mapNvSlots f).array.settings = s.array.settings := by unfold State.mapNvSlots; rfl

@[simp] theorem State.mapNvSlots_counterRecord (s : State) (f : SlotIx → NvSlot → NvSlot) :
    (s.mapNvSlots f).array.counter = s.array.counter := by unfold State.mapNvSlots; rfl

theorem alike_mapNvSlots (s : State) (f : SlotIx → NvSlot → NvSlot) : Alike s (s.mapNvSlots f) := by
  simp [Alike, State.view]

theorem alike_settleRetry (s : State) : Alike s s.settleRetry := by
  unfold State.settleRetry
  split
  · rfl
  · rfl

theorem alike_elapse (s : State) (n : Nat) : Alike s (s.elapse n) := by
  have hwork : (s.elapse n).cipher.work.map Work.view = s.cipher.work.map Work.view := by
    rcases s.elapse_work n with h | h
    · rw [h]
    · rw [h, Option.map_map]; rfl
  simp only [Alike, State.view, hwork, State.lane_elapse, State.elapse_pending, State.elapse_power, State.elapse_rst,
    State.elapse_store, State.elapse_array, State.elapse_ring_live, State.elapse_ring_c, State.elapse_ring_h,
    State.elapse_ring_back, State.elapse_ring_ahead, State.elapse_cache, State.elapse_counter, State.elapse_active_op,
    State.elapse_engine_held, State.elapse_engine_counterRequest, State.elapse_protection]

theorem alike_wait (s : State) (n : Nat) : Alike s (s.wait n) := alike_elapse ..

/-! ### Moves -/

/-- The lanes that `p` names lose their context, and a job of them in the engine is detached (R85, R86). -/
def State.discards (p : LaneIx → Bool) (s : State) : State :=
  { s.mapLanesAt fun l x => if p l then x.discard else x with
    cipher := { s.cipher with work := s.cipher.work.map fun w =>
      match w.requester with
      | .lane l => if p l then { w with detached := true } else w
      | .site => w } }

/-- The sessions that `p` names are closed. -/
def State.closes (p : LaneIx → EntryIx → Session → Bool) (s : State) : State :=
  s.mapLanesAt fun l x => { x with sessions := Vector.ofFn fun e => (x.sessions[e]).closeIf (p l e) }

/-- The entry of a lane takes a session. -/
def State.opens (l : LaneIx) (e : EntryIx) (serial : BitVec 6) (v : Session) (s : State) : State :=
  s.setLane l { s.lane l with sessions := (s.lane l).sessions.set e { serial := serial, session := some v } }

/-- The kinds of a move. All but the first belong to one command or to a few, and some claims leave these commands out. -/
inductive MoveKind where
  /-- a move of any command -/
  | ordinary
  /-- the completion of SET_GEOMETRY -/
  | geometry
  /-- a start-up, a reset or a loss of power -/
  | supply
  /-- the completion of a SET_COUNTER -/
  | counterSet
  deriving DecidableEq

/-- The part has power and is not in reset. -/
def State.On (s : State) : Prop := s.power ≠ .off ∧ s.power ≠ .held

/-- Without power and in reset no operation is active (R185). -/
def State.Quiet (s : State) : Prop := s.power = .off ∨ s.power = .held → s.engine.active = none

/-- The lane is next at the arbiter of a part with power, and the cipher engine is free (R72, R75). -/
def State.GrantOf (s : State) (l : LaneIx) : Prop := s.On ∧ s.cipher.work = none ∧ (s.lane l).eligible = true

/-- A free write engine on a part with power; what is held is absent (R148). -/
def State.Free (s : State) : Prop := s.On ∧ s.engine.active = none ∧ s.engine.held = none

/-- The moves of the part: the changes that some law sees, each in one piece. `Q` says whether the moves that begin an operation
without a command of the site are known to be those of a part with power. -/
inductive Move (Q : Prop) : MoveKind → State → State → Prop where
  /-- nothing that a law reads -/
  | alike {s t} : Alike s t → Move Q .ordinary s t
  -- lanes
  | submit {s} (l : LaneIx) (j : Job) : (s.lane l).jobs.length < 8 →
      Move Q .ordinary s (s.setLane l ((s.lane l).pushJob j))
  | fetch {s} (l : LaneIx) (r : Result) (rest : List Result) : (s.lane l).results = r :: rest →
      Move Q .ordinary s (s.setLane l { s.lane l with results := rest })
  | lapse {s} (l : LaneIx) (place : Nat) : Move Q .ordinary s (s.setLane l ((s.lane l).lapse place))
  | discards {s} (p : LaneIx → Bool) : Move Q .ordinary s (s.discards p)
  | closes {s} (p : LaneIx → EntryIx → Session → Bool) : Move Q .ordinary s (s.closes p)
  | verified {s} (l : LaneIx) (e : EntryIx) (v : Session) : (s.lane l).sessions[e].session = some v →
      Move Q .ordinary s (s.setLane l ((s.lane l).setSession e (some { v with verified := true })))
  | opens {s} (l : LaneIx) (e : EntryIx) (serial : BitVec 6) (v : Session) (i : SlotIx) :
      (s.slot i).state = .loaded → (s.slot i).generation = some v.generation → Move Q .ordinary s (s.opens l e serial v)
  | endHead {s} (l : LaneIx) (code : Code) : s.GrantOf l → Move Q .ordinary s (s.endAtDispatch l code)
  | take {s} (l : LaneIx) (blocks : Nat) (task : Task) : s.GrantOf l → (∀ load kx, task ≠ .unwrap load kx) →
      Move Q .ordinary s ((s.takeHead l).enter (.lane l) blocks task)
  | enterWait {s} (l : LaneIx) (j : Job) (rest : List Job) (k : SealJob) : s.GrantOf l → (s.lane l).jobs = j :: rest →
      j.body = .seal k → Move Q .ordinary s (s.enterCounterWait l)
  | deliver {s} (w : Work) (l : LaneIx) (r : Result) : s.cipher.work = some w → w.requester = .lane l →
      Move Q .ordinary s (s.deliver l w.detached r).endWork
  | leaveWait {s} : Move Q .ordinary s s.report
  -- the cache
  | touch {s} (e : CacheEntry) : e ∈ s.cache → Move Q .ordinary s { s with cache := cacheTouch e s.cache }
  | insert {s} (e : CacheEntry) (i : SlotIx) : s.mayInsert e.generation i = true →
      Move Q .ordinary s { s with cache := cacheInsert e s.cache }
  -- the receipt counter
  | ask {s} : s.counter.state = .running → s.counter.reserving = false → s.counter.setting = false →
      s.counter.limit < 4294967295 ∨ s.counter.limit ≤ s.counter.next → Move Q .ordinary s s.requestReservation
  | issue {s} : s.counter.state = .running → s.counter.setting = false → s.counter.next < s.counter.limit →
      ¬(s.counter.next + 1 = 4294967295 ∧ s.counter.next + 1 = s.counter.limit) →
      Move Q .ordinary s { s with counter := { s.counter with next := s.counter.next + 1 } }
  | issueLast {s} : s.counter.state = .running → s.counter.setting = false → s.counter.next + 1 = 4294967295 →
      s.counter.next + 1 = s.counter.limit →
      Move Q .ordinary s { s with counter := { s.counter with next := s.counter.next + 1, state := .exhausted } }
  | reserved {s} (limit : Nat) (retry : Bool) : s.engine.active.map (·.op) = some (.reservation limit retry) →
      Move Q .ordinary s
        { s.putCounter (.good limit) with counter := { s.counter with limit := limit, reserving := false } }.endOp
  | reserveAgain {s} (limit : Nat) : s.engine.active.map (·.op) = some (.reservation limit false) →
      Move Q .ordinary s { s.putCounter .damaged with
        engine := { s.engine with active := none, counterRequest := some { limit := limit, retry := true } } }
  | reserveGivenUp {s} (limit : Nat) : s.engine.active.map (·.op) = some (.reservation limit true) →
      Move Q .ordinary s { s.putCounter .damaged with counter := { s.counter with reserving := false } }.endOp
  | counterSet {s} (base limit : Nat) : s.engine.active.map (·.op) = some (.setCounter base limit) →
      Move Q .counterSet s (applyCounter base limit (s.putCounter (.good limit))).endOp
  | counterKept {s} (base limit : Nat) : s.engine.active.map (·.op) = some (.setCounter base limit) →
      Move Q .counterSet s { s.putCounter .damaged with counter := { s.counter with setting := false } }.endOp
  -- loads and programs
  | load {s} (l : Load) : s.On → s.engine.active = none →
      (∀ x, s.engine.held = some x → x.op.isProgram = false ∧ x.op.targets l.slot = false) → (s.slot l.slot).state = .blank →
      s.lockedSlot l.slot = false →
      (l.generation.isSome = true → s.ring.live = true ∧ l.slot = s.ring.slotAt s.store.geometry
        (s.ring.position (l.generation.getD 0))) → Move Q .ordinary s (s.startOp (.load l) 0)
  | unwrap {s} (blocks : Nat) (load : Load) (kx : Option Block) : s.cipher.work = none →
      s.engine.active.map (·.op) = some (.load load) → Move Q .ordinary s (s.enter .site blocks (.unwrap load kx))
  | dropLoad {s} (load : Load) : s.engine.active.map (·.op) = some (.load load) →
      Move Q .ordinary s s.endOp.endWork
  | dropUnwrap {s} (w : Work) (load : Load) (kx : Option Block) : s.cipher.work = some w → w.task = .unwrap load kx →
      Move Q .ordinary s s.endOp.endWork
  | program {s} (w : Work) (load : Load) (kx : Option Block) (key : Block) : s.cipher.work = some w →
      w.task = .unwrap load kx → Move Q .ordinary s (s.endWork.beginProgram load key)
  | programFailed {s} (i : SlotIx) : s.engine.active.map (·.op) = some (.slotOp (.program i)) →
      Move Q .ordinary s (s.setSlot i (Slot.cleared .damaged)).endOp
  | programLoaded {s} (i : SlotIx) : s.engine.active.map (·.op) = some (.slotOp (.program i)) →
      (s.inRing i = true → s.ring.live = true ∧ s.aligned i = true) →
      Move Q .ordinary s (s.setSlot i { s.slot i with state := .loaded }).endOp
  | programStale {s} (i : SlotIx) : s.engine.active.map (·.op) = some (.slotOp (.program i)) →
      Move Q .ordinary s (s.retireSlots (· == i)).endOp
  -- erases, retirement and marks
  | erase {s} (op : SlotOp) (time : Nat) : s.Free → op.isProgram = false →
      (∀ i, op.targets i = true → s.lockedSlot i = false) → Move Q .ordinary s ((s.beginErase op).startOp (.slotOp op) time)
  | erased {s} (op : SlotOp) (failed : List SlotIx) : s.engine.active.map (·.op) = some (.slotOp op) →
      op.isProgram = false →
      Move Q .ordinary s (s.mapSlots fun i x => if s.beingErased op i then
        (if failed.contains i then Slot.cleared .damaged else Slot.empty) else x).endOp
  | retire {s} (i : SlotIx) : (s.slot i).state = .loaded → s.lockedSlot i = false →
      Move Q .ordinary s (s.retireSlots (· == i))
  | dropMarks {s} (taken : List SlotIx) : Move Q .ordinary s (s.dropMarks taken)
  -- holding and resuming
  | hold {s} (who : HeldBy) : s.engine.held = none → Move Q .ordinary s (s.holdActive who)
  | rehold {s} (x : HeldOp) (who : HeldBy) : s.engine.held = some x →
      Move Q .ordinary s { s with engine := { s.engine with held := some { x with by_ := who } } }
  | resume {s} (x : HeldOp) : (Q → s.On) → s.engine.active = none → s.engine.held = some x →
      Move Q .ordinary s
        { s with engine := { s.engine with active := some { op := .slotOp x.op, remaining := x.remaining }, held := none } }
  -- the ring
  | advance {s} : s.ring.live = true → Move Q .ordinary s s.advance
  -- internal writes
  | reservation {s} (r : CounterRequest) (time : Nat) : (Q → s.On) → s.engine.active = none →
      s.engine.counterRequest = some r →
      Move Q .ordinary s ({ s with engine := { s.engine with counterRequest := none } }.startOp
        (.reservation r.limit r.retry) time)
  | genRecord {s} (c : Gen) (h : Nat) (retry : Bool) (time : Nat) : (Q → s.On) → s.engine.active = none →
      Move Q .ordinary s (s.startOp (.genRecord c h retry) time)
  | retireMarks {s} (taken : List SlotIx) (retry : Bool) (time : Nat) : (Q → s.On) → s.engine.active = none →
      Move Q .ordinary s (s.startOp (.retireMarks taken retry) time)
  | recordEnds {s} (op : Operation) : s.engine.active.map (·.op) = some op →
      (∃ c h retry, op = .genRecord c h retry) ∨ (∃ taken retry, op = .retireMarks taken retry) ∨
        (∃ i c h, op = .setCurrent i c h) → Move Q .ordinary s s.endOp
  -- site operations on records
  | settings {s} (c : SettingsCommand) (r : Settings) (time : Nat) : s.Free →
      (s.settings.Ok → s.ring.h < s.store.geometry.ring → r.Ok) → ((∀ c0, c ≠ .geometry c0) → r.geometry = s.store.geometry) →
      ((∃ c0, c = .geometry c0) → ∀ i, s.inRing i = true ∨ r.geometry.area i = .ring → (s.slot i).state = .blank) →
      Move Q .ordinary s (s.startOp (.settings c r) time)
  | setCurrent {s} (i : SlotIx) (g : Gen) (time : Nat) : s.Free → s.ring.live = false → s.inRing i = true →
      Move Q .ordinary s (s.startOp (.setCurrent i g (i.val - s.store.geometry.head)) time)
  | setCounter {s} (base limit time : Nat) : s.Free → s.engine.counterRequest = none →
      (s.counter.state ≠ .unset → s.counter.next ≤ base) → base ≤ limit → limit ≤ 4294967295 →
      Move Q .ordinary s ({ s with counter := { s.counter with setting := true } }.startOp (.setCounter base limit) time)
  | settingsEnd {s} (c : SettingsCommand) (r : Settings) (kept : NvRecord Settings) :
      s.engine.active.map (·.op) = some (.settings c r) → kept = .damaged ∨ kept = .good r →
      Move Q .ordinary s (s.putSettings kept).endOp
  | windowSet {s} (r : Settings) : s.engine.active.map (·.op) = some (.settings .window r) →
      Move Q .ordinary s (applyWindow r (s.putSettings (.good r))).endOp
  | geometrySet {s} (c0 : Gen) (r : Settings) : s.engine.active.map (·.op) = some (.settings (.geometry c0) r) →
      Move Q .geometry s (applyGeometry c0 r (s.putSettings (.good r))).endOp
  | lockSet {s} (a : FixedArea) (r : Settings) : s.engine.active.map (·.op) = some (.settings (.lock a) r) →
      Move Q .ordinary s (applyLock a (s.putSettings (.good r))).endOp
  | currentSet {s} (i : SlotIx) (c : Gen) (h : Nat) : s.engine.active.map (·.op) = some (.setCurrent i c h) →
      Move Q .ordinary s (applyCurrent c h s).endOp
  -- supply and lines
  | startUp {s} : s.rst = false → Move Q .supply s (s.startUp false)
  | softReset {s} : s.power = .running → Move Q .supply s (s.abandon.startUp true)
  | lose {s} (power : Power) (rst : Bool) : power = .off ∨ power = .held ∧ rst = true →
      Move Q .supply s { s.abandon.unpowered with power := power, rst := rst }
  | rstFalls {s} : s.power = .off ∨ s.power = .held → Move Q .supply s { s with rst := true }
  | rstRises {s} : s.power ≠ .held → Move Q .supply s { s with rst := false }
  | rstReleases {s} : Move Q .supply s ({ s with rst := false }.startUp false)
  | waits {s} : s.power = .off → s.rst = true → Move Q .supply s { s with power := .held }
  | runs {s} : s.power = .starting → Move Q .ordinary s { s with power := .running }

/-! ### Chains of moves -/

/-- A chain of ordinary moves and of moves of the kind `k`. -/
inductive Moves (Q : Prop) (k : MoveKind) : State → State → Prop where
  | refl (s : State) : Moves Q k s s
  | snoc {s t u : State} {k' : MoveKind} : Moves Q k s t → k' = .ordinary ∨ k' = k → Move Q k' t u → Moves Q k s u

section
variable {Q : Prop} {k : MoveKind} {s t u : State}

theorem Moves.trans (h : Moves Q k s t) (h' : Moves Q k t u) : Moves Q k s u := by
  induction h' with
  | refl => exact h
  | snoc _ hk m ih => exact ih.snoc hk m

theorem Move.moves (m : Move Q .ordinary s t) : Moves Q k s t := .snoc (.refl s) (.inl rfl) m

theorem Move.special (m : Move Q k s t) : Moves Q k s t := .snoc (.refl s) (.inr rfl) m

theorem Alike.moves (h : Alike s t) : Moves Q k s t := (Move.alike h).moves

theorem Moves.alike (h : Moves Q k s t) (h' : Alike t u) : Moves Q k s u := h.trans h'.moves

theorem Moves.move (h : Moves Q k s t) (m : Move Q .ordinary t u) : Moves Q k s u := h.trans m.moves

/-- What every move keeps, every chain of moves keeps. -/
theorem Moves.keeps {P : State → Prop}
    (hP : ∀ k' s t, k' = .ordinary ∨ k' = k → Move Q k' s t → P s → P t) (h : Moves Q k s t) (hs : P s) : P t := by
  induction h with
  | refl => exact hs
  | snoc _ hk m ih => exact hP _ _ _ hk m ih

/-- All that a command frame can do, as moves. -/
theorem State.command_moves {α : Type} (p : Port) (syncing : Bool) (payload : List Byte) (args : Option α)
    (rule : α → State → Reply)
    (taken : ∀ a u, args = some a → u.power = .running → Moves Q k u (rule a u).1) :
    Moves Q k s (s.command p syncing payload args rule) := by
  have hdisarm : Moves Q k s (s.disarm p) := (alike_disarm s p).moves
  refine State.command_cases s p syncing payload args rule (Moves Q k s) ?silent ?long ?bad ?refused ?taken
  case silent => exact fun r _ => (alike_answer s p r).moves
  case long => exact ((alike_countError s p .frame).trans (alike_answer ..)).moves
  case bad => exact (hdisarm.alike (alike_countError ..)).alike (alike_answer ..)
  case refused => exact fun c => hdisarm.alike (alike_answer ..)
  case taken =>
    intro a ha hrun
    have hrun' : (s.disarm p).power = .running := (alike_disarm s p).power.trans hrun
    exact (hdisarm.trans (taken a _ ha hrun')).alike (alike_answer ..)

end

end Sys2Proof.Machine

/-! PROOFS. The commands of the lanes, of the cipher engine and of the ports as chains of moves. -/

namespace Sys2Proof.Machine

section
variable {Q : Prop} {k : MoveKind} {s : State}

/-! ### Moves that the model writes in other words -/

theorem alike_discardLane (s : State) (l : LaneIx) : Alike (s.discards (· == l)) (s.discardLane l) := by
  have hlanes : (fun m => ((s.discardLane l).lane m).view) = fun m => ((s.discards (· == l)).lane m).view := by
    funext m
    have hm : (s.discards (· == l)).lane m = if m == l then (s.lane m).discard else s.lane m :=
      s.lane_mapLanesAt (fun m x => if m == l then x.discard else x) m
    rw [hm, State.lane_discardLane]
    by_cases h : l = m
    · subst h; simp
    · simp [h, Ne.symm h]
  have hwork : (s.cipher.detach l).work.map Work.view = (s.discards (· == l)).cipher.work.map Work.view := by
    simp only [Cipher.detach, State.discards]
    rcases s.cipher.work with _ | ⟨req, d, left, task⟩
    · rfl
    · cases req with
      | site => simp
      | lane m => by_cases h : m = l <;> simp [h]
  unfold Alike State.view
  rw [hlanes]
  simp only [State.discardLane_cipher, hwork]
  rfl

/-- Closing sessions is the move that closes them, whatever flag tells of it. -/
theorem alike_closes (s : State) (p : LaneIx → EntryIx → Session → Bool) {f : LaneIx → Lane → Lane}
    (hf : ∀ l x, (f l x).jobs = x.jobs ∧ (f l x).results = x.results ∧ (f l x).counterWait = x.counterWait ∧
      ∀ e : EntryIx, (f l x).sessions[e] = (x.sessions[e]).closeIf (p l e)) :
    Alike (s.closes p) (s.mapLanesAt f) := by
  have hlanes : (fun l => ((s.mapLanesAt f).lane l).view) = fun l => ((s.closes p).lane l).view := by
    funext l
    obtain ⟨hj, hr, hc, hs⟩ := hf l (s.lane l)
    have hsessions : (f l (s.lane l)).sessions = Vector.ofFn fun e => ((s.lane l).sessions[e]).closeIf (p l e) :=
      Vector.ext fun e he => by simpa using hs ⟨e, he⟩
    simp only [State.closes, State.lane_mapLanesAt, Lane.view, hj, hr, hc, hsessions]
  unfold Alike State.view
  rw [hlanes]
  rfl

theorem alike_loseSessions (s : State) (p : Session → Bool) :
    Alike (s.closes fun _ _ => p) (s.mapLanes fun x => x.loseSessions p) :=
  alike_closes s _ fun _ x => by
    have hjobs := congrArg Lane.jobs (Lane.loseSessions_frame x p)
    have hresults := congrArg Lane.results (Lane.loseSessions_frame x p)
    have hwait := congrArg Lane.counterWait (Lane.loseSessions_frame x p)
    exact ⟨hjobs, hresults, hwait, Lane.loseSessions_sessions x p⟩

/-- Closing the session of one entry. -/
theorem alike_closeEntry (s : State) (l : LaneIx) (e : EntryIx) :
    Alike (s.closes fun m e' _ => m == l && e' == e) (s.setLane l ((s.lane l).setSession e none)) := by
  have hset : Alike (s.closes fun m e' _ => m == l && e' == e)
      (s.mapLanesAt fun m x => if m = l then x.setSession e none else x) := by
    refine alike_closes s _ fun m x => ?_
    by_cases hm : m = l
    · subst hm
      rw [if_pos rfl]
      refine ⟨rfl, rfl, rfl, fun e' => ?_⟩
      simp only [Lane.setSession, Fin.getElem_fin, Vector.getElem_set, Entry.closeIf, beq_self_eq_true, Bool.true_and,
        beq_iff_eq, ← Fin.ext_iff]
      by_cases he : e = e'
      · subst he
        rw [if_pos rfl]
        rcases x.sessions[e.val] with ⟨serial, _ | v⟩
        · rfl
        · simp
      · rw [if_neg he]
        rcases x.sessions[e'.val] with ⟨serial, _ | v⟩
        · rfl
        · simp [Ne.symm he]
    · rw [if_neg hm]
      refine ⟨rfl, rfl, rfl, fun e' => ?_⟩
      rcases x.sessions[e'] with ⟨serial, _ | v⟩
      · rfl
      · simp [Entry.closeIf, hm]
  refine hset.trans ?_
  have hlanes : (fun m => ((s.setLane l ((s.lane l).setSession e none)).lane m).view) =
      fun m => ((s.mapLanesAt fun m x => if m = l then x.setSession e none else x).lane m).view := by
    funext m
    rw [State.lane_setLane, State.lane_mapLanesAt]
    by_cases hm : l = m
    · subst hm; simp
    · simp [hm, Ne.symm hm]
  unfold Alike State.view
  rw [hlanes]
  rfl

/-- Writing a lane over a lane that was just written. -/
theorem alike_setLane_setLane (s : State) (l : LaneIx) (x : Lane) {y : Lane} (h : y.view = x.view) :
    Alike (s.setLane l x) (s.setLane l y) := by
  have hlanes : (fun m => ((s.setLane l y).lane m).view) = fun m => ((s.setLane l x).lane m).view := by
    funext m
    rw [State.lane_setLane, State.lane_setLane]
    split
    · exact h
    · rfl
  unfold Alike State.view
  rw [hlanes]
  rfl

/-! ### Ports -/

theorem syncRule_moves (p : Port) (arg : Option Byte × BitVec 16) : Moves Q k s (syncRule p arg s).1 := by
  unfold syncRule
  split
  · have hready : Moves Q k s (s.setPort p { (s.port p).clearCounts with state := .ready }) := (alike_setPort ..).moves
    cases p with
    | site => exact hready
    | lane l => exact ((hready.move (.discards (· == l))).alike (alike_discardLane ..)).alike (alike_setLane _ _ rfl)
  · exact (alike_flagSite s .port).moves

theorem setEnables_moves (p : Port) (b : Byte) : Moves Q k s (s.setEnables p b) := by
  cases p with
  | lane l => exact Alike.moves (alike_setLane s l (by rfl))
  | site => exact Alike.moves rfl

theorem clearFlags_moves (p : Port) (b : Byte) : Moves Q k s (s.clearFlags p b) := by
  cases p with
  | lane l => exact Alike.moves (alike_setLane s l (by rfl))
  | site => exact Alike.moves rfl

/-! ### SUBMIT, FETCH and JOB_LAPSE -/

theorem submitRule_moves (l : LaneIx) (payload : List Byte) : Moves Q k s (submitRule l payload s).1 := by
  unfold submitRule
  split
  · exact .refl s
  · split
    · exact (alike_countError s (.lane l) .command).moves
    · split
      · exact .refl s
      · rename_i hroom
        exact (Move.submit l _ (Nat.lt_of_not_le hroom)).moves

theorem fetchRule_moves (l : LaneIx) : Moves Q k s (fetchRule l s).1 := by
  unfold fetchRule
  split
  · exact .refl s
  · exact (Move.fetch l _ _ ‹_›).moves

theorem execJobLapse_moves {t : State} (l : LaneIx) (place : Fin 8) (h : execJobLapse l place s = .next t) :
    Moves Q k s t := by
  unfold execJobLapse at h
  split at h
  · split at h
    · cases h
      exact (alike_wait ..).moves.move (.lapse l place.val)
    · cases h; exact .refl s
  · cases h; exact .refl s

/-! ### Grants -/

theorem State.eligible_of_nextGrant {p : Port} (h : s.nextGrant = some p) : s.eligible p = true := List.find?_some h

theorem mem_of_cacheFind {tagId : BitVec 64} {g : Gen} {cache : List CacheEntry} {e : CacheEntry}
    (h : cacheFind tagId g cache = some e) : e ∈ cache := List.mem_of_find?_eq_some h

theorem enterAnswer_moves (l : LaneIx) (j : Job) (a : AnswerJob) (hg : s.GrantOf l) :
    Moves Q k s (s.enterAnswer l j a) := by
  unfold State.enterAnswer
  dsimp only
  split
  · exact (Move.take l _ _ hg (by intros; simp)).moves
  · rename_i i hi
    split
    · rename_i e he
      have he : e ∈ s.cache := mem_of_cacheFind he
      exact ((Move.touch e he).moves.move (.take l 1
        (.answer j.jobTag a i (s.slot i).key true e.kt (Config.readerNonce s.draws)
          (tagProof e.kt a.nt (Config.readerNonce s.draws))) hg (by intros; simp))).alike rfl
    · exact (Move.take l _ _ hg (by intros; simp)).moves.alike rfl

theorem dispatchVerify_moves (l : LaneIx) (j : Job) (v : VerifyJob) (hg : s.GrantOf l) :
    Moves Q k s (s.dispatchVerify l j v) := by
  unfold State.dispatchVerify
  split
  · exact (Move.endHead l _ hg).moves
  · split
    · exact (Move.endHead l _ hg).moves
    · exact (Move.take l _ _ hg (by intros; simp)).moves

theorem issueNumber_moves (hrun : s.counter.state = .running) (hset : s.counter.setting = false)
    (hfree : s.counter.next < s.counter.limit) : Moves Q k s s.issueNumber := by
  unfold State.issueNumber
  dsimp only
  split
  · rename_i h
    exact (Move.issueLast hrun hset h.1 h.2).moves.alike (alike_flagSite ..)
  · rename_i h
    refine (Move.issue hrun hset hfree h).moves.trans ?_
    refine State.examineLowWater_cases _ (Moves Q k _) (fun hlow => ?_) fun _ => .refl _
    simp only [Counter.lowWater, Bool.and_eq_true, decide_eq_true_eq, Bool.not_eq_true', beq_iff_eq] at hlow
    obtain ⟨⟨⟨⟨hrun, -⟩, hlimit⟩, hres⟩, hset⟩ := hlow
    exact Move.moves (.ask hrun hres hset (.inl hlimit))

/-- The issue of a number and the entry of work into the cipher engine do not meet. -/
theorem State.issueNumber_enter (s : State) (p : Port) (blocks : Nat) (task : Task) :
    (s.enter p blocks task).issueNumber = s.issueNumber.enter p blocks task := by
  unfold State.issueNumber State.examineLowWater
  dsimp only
  by_cases hlast : s.counter.next + 1 = Config.counterTop ∧ s.counter.next + 1 = s.counter.limit
  · rw [if_pos hlast, if_pos (by exact hlast)]
    rfl
  · rw [if_neg hlast, if_neg (by exact hlast)]
    by_cases hlow : ({ s.counter with next := s.counter.next + 1 } : Counter).lowWater = true
    · rw [if_pos hlow, if_pos (by exact hlow)]
      rfl
    · rw [if_neg hlow, if_neg (by exact hlow)]
      rfl

theorem enterSeal_moves (l : LaneIx) (j : Job) (q : SealJob) (x : Session) (i : SlotIx) (hg : s.GrantOf l)
    (hrun : s.counter.state = .running) (hset : s.counter.setting = false) (hfree : s.counter.next < s.counter.limit) :
    Moves Q k s (s.enterSeal l j q x i) := by
  let task : Task := .seal j.jobTag q x.tagId x.generation s.counter.next (s.slot i).key
  have htaken : Moves Q k s ((s.takeHead l).enter (.lane l) 2 task) := (Move.take l 2 task hg (by intros; simp [task])).moves
  have hissued : Moves Q k s ((s.takeHead l).enter (.lane l) 2 task).issueNumber :=
    htaken.trans (issueNumber_moves hrun hset hfree)
  have hclosed := (hissued.move (.closes fun m e' _ => m == l && e' == handleEntry q.handle)).alike
    (alike_closeEntry _ l (handleEntry q.handle))
  refine hclosed.alike ?_
  rw [State.issueNumber_enter]
  rfl

theorem counterCheck_moves (l : LaneIx) (j : Job) (rest : List Job) (q : SealJob) (x : Session) (i : SlotIx)
    (hg : s.GrantOf l) (hj : (s.lane l).jobs = j :: rest) (hq : j.body = .seal q) :
    Moves Q k s (s.counterCheck l j q x i) := by
  unfold State.counterCheck
  split
  · exact (Move.endHead l _ hg).moves
  · exact (Move.endHead l _ hg).moves
  · rename_i hrun
    split
    · exact (Move.enterWait l j rest q hg hj hq).moves
    · rename_i hset
      have hset : s.counter.setting = false := Bool.of_not_eq_true hset
      split
      · exact enterSeal_moves l j q x i hg hrun hset ‹_›
      · rename_i hfull
        split
        · exact (Move.enterWait l j rest q hg hj hq).moves
        · rename_i hres
          have hres : s.counter.reserving = false := Bool.of_not_eq_true hres
          exact (Move.ask hrun hres hset (.inr (Nat.le_of_not_lt hfull))).moves.move
            (.enterWait (s := s.requestReservation) l j rest q hg hj hq)

theorem dispatch_moves (l : LaneIx) (hg : s.GrantOf l) : Moves Q k s (s.dispatch l) := by
  unfold State.dispatch
  split
  · exact .refl s
  · rename_i j rest hj
    split
    · exact (Move.endHead l _ hg).moves
    · split
      · exact enterAnswer_moves l j _ hg
      · exact dispatchVerify_moves l j _ hg
      · rename_i q hq
        unfold State.dispatchSeal
        split
        · exact (Move.endHead l _ hg).moves
        · split
          · exact (Move.endHead l _ hg).moves
          · split
            · exact (Move.endHead l _ hg).moves
            · exact counterCheck_moves l j rest q _ _ hg hj hq

theorem State.preparing_eq_some {load : Load} (h : s.preparing = some load) :
    s.engine.active.map (·.op) = some (.load load) := by
  unfold State.preparing at h
  split at h
  · rename_i ha
    cases h
    rw [ha]; rfl
  · cases h

theorem grantSite_moves (hw : s.cipher.work = none) : Moves Q k s s.grantSite := by
  unfold State.grantSite
  split
  · exact .refl s
  · rename_i load hload
    have hactive := State.preparing_eq_some hload
    split
    · exact (Move.unwrap _ load _ hw hactive).moves
    · split
      · exact (Move.unwrap _ load _ hw hactive).moves
      · refine ((Move.dropLoad load hactive).moves.alike ?_).alike (alike_outcome ..)
        unfold Alike State.view
        simp only [State.endWork, State.endOp_cipher, hw]
        rfl

theorem execGrant_moves {t : State} (h : execGrant s = .next t) : Moves Q k s t := by
  unfold execGrant at h
  split at h
  · rename_i hfree
    split at h
    · rename_i l hl
      cases h
      have hon : s.On := by simp [State.On, hfree.1]
      have hg : (s.granted (.lane l)).GrantOf l := ⟨hon, hfree.2, State.eligible_of_nextGrant hl⟩
      exact (Alike.moves (s := s) (t := s.granted (.lane l)) rfl).trans (dispatch_moves l hg)
    · cases h
      exact (Alike.moves (s := s) (t := s.granted .site) rfl).trans (grantSite_moves hfree.2)
    · cases h; exact .refl s
  · cases h; exact .refl s

/-! ### Completions of lane jobs -/

theorem State.elapse_work_some {n : Nat} {w : Work} (h : s.cipher.work = some w) :
    ∃ left, (s.elapse n).cipher.work = some { w with left := left } := by
  rcases s.elapse_work n with he | he
  · exact ⟨w.left, by rw [he, h]⟩
  · exact ⟨w.left - n, by rw [he, h]; rfl⟩

theorem State.slot_of_answerCode_ok {g : Gen} {i : SlotIx} (h : s.answerCode g i = .ok) :
    (s.slot i).state = .loaded ∧ (s.slot i).generation = some g := by
  unfold State.answerCode at h
  split at h
  · cases h
  · rename_i hn
    exact Classical.not_not.mp hn

theorem offerKey_moves (hit : Bool) (tagId : BitVec 64) (g : Gen) (kt : Block) (i : SlotIx) :
    Moves Q k s (s.offerKey hit tagId g kt i) := by
  unfold State.offerKey
  split
  · rename_i h
    simp only [Bool.and_eq_true] at h
    exact (Move.insert { tagId := tagId, generation := g, kt := kt } i h.2).moves
  · exact .refl s

theorem Lane.openSession_view (now : Time) (v : Session) (x : Lane) : ∃ (e : EntryIx) (serial : BitVec 6),
    (x.openSession now v).1.view = { x.view with sessions := x.sessions.set e { serial := serial, session := some v } } := by
  unfold Lane.openSession
  cases x.freeEntry with
  | some i => exact ⟨i, _, rfl⟩
  | none =>
    refine ⟨x.oldestEntry now, (x.sessions[x.oldestEntry now]).serial + 1, ?_⟩
    dsimp only
    unfold Lane.flag
    split <;> rfl

theorem State.setLane_setLane (s : State) (l : LaneIx) (x y : Lane) : (s.setLane l x).setLane l y = s.setLane l y := by
  unfold State.setLane
  simp

/-- A session opens in the lane, and the result of its job joins the queue. -/
theorem openSession_moves (w : Work) (l : LaneIx) (hw : s.cipher.work = some w) (hl : w.requester = .lane l)
    (hattached : w.detached = false) (now : Time) (v : Session) (i : SlotIx) (hloaded : (s.slot i).state = .loaded)
    (hgen : (s.slot i).generation = some v.generation) (r : Result) :
    Moves Q k s (s.setLane l (((s.lane l).openSession now v).1.pushResult r)).endWork := by
  obtain ⟨e, serial, hview⟩ := Lane.openSession_view now v (s.lane l)
  have hopened : Moves Q k s (s.opens l e serial v) :=
    (Move.opens l e serial v i hloaded hgen).moves
  refine (hopened.move (.deliver w l r hw hl)).alike ?_
  simp only [State.deliver, hattached, Bool.false_eq_true, if_false]
  unfold State.opens
  rw [State.setLane_setLane]
  refine congrArg (fun x : View => { x with work := none }) (alike_setLane_setLane s l _ ?_)
  have hjobs := congrArg LaneView.jobs hview
  have hresults := congrArg LaneView.results hview
  have hwait := congrArg LaneView.counterWait hview
  have hsessions := congrArg LaneView.sessions hview
  simp only [Lane.view] at hjobs hresults hwait hsessions
  simp only [Lane.view, Lane.pushResult, State.lane_setLane, if_true, hjobs, hresults, hwait, hsessions]

theorem finishAnswer_moves (w : Work) (l : LaneIx) (hw : s.cipher.work = some w) (hl : w.requester = .lane l)
    (tag : Byte) (a : AnswerJob) (i : SlotIx) (hit : Bool) (kt : Block) (nr proof : BitVec 64) :
    Moves Q k s (s.finishAnswer l w.detached tag a i hit kt nr proof).endWork := by
  unfold State.finishAnswer
  dsimp only
  have hoffered : Moves Q k s (s.offerKey hit a.tagId a.gen kt i) := offerKey_moves ..
  have hframe : (s.offerKey hit a.tagId a.gen kt i).cipher = s.cipher ∧
      (s.offerKey hit a.tagId a.gen kt i).store = s.store := by
    unfold State.offerKey
    split <;> exact ⟨rfl, rfl⟩
  have hw' : (s.offerKey hit a.tagId a.gen kt i).cipher.work = some w := by rw [hframe.1, hw]
  split
  · rename_i hok
    obtain ⟨hcode, hattached⟩ := hok
    obtain ⟨hloaded, hgen⟩ := State.slot_of_answerCode_ok hcode
    have hslot : (s.offerKey hit a.tagId a.gen kt i).slot i = s.slot i := by simp only [State.slot, hframe.2]
    rw [← hslot] at hloaded hgen
    exact hoffered.trans (openSession_moves w l hw' hl hattached _ _ i hloaded hgen _)
  · exact hoffered.move (.deliver w l _ hw' hl)

theorem execAnswerCompletion_moves {t : State} (h : execAnswerCompletion s = .next t) : Moves Q k s t := by
  unfold execAnswerCompletion at h
  split at h
  · rename_i hw
    cases h
    obtain ⟨left, hw'⟩ := State.elapse_work_some hw
    exact (alike_elapse ..).moves.trans (finishAnswer_moves _ _ hw' rfl ..)
  · rename_i hw
    cases h
    obtain ⟨left, hw'⟩ := State.elapse_work_some hw
    exact (alike_elapse ..).moves.move (.deliver _ _ _ hw' rfl)
  · cases h; exact .refl s

theorem execVerifyCompletion_moves {t : State} (h : execVerifyCompletion s = .next t) : Moves Q k s t := by
  unfold execVerifyCompletion at h
  split at h
  · rename_i l detached left tag v kt nt nr hw
    obtain ⟨left', hw'⟩ := State.elapse_work_some (n := left) hw
    have hdue : Moves Q k s (s.elapse left) := (alike_elapse ..).moves
    generalize s.elapse left = u at h hw' hdue
    dsimp only at h
    split at h
    · rename_i hdetached
      cases h
      refine (hdue.move (.deliver _ l
        { jobTag := tag, kind := .verify, code := .ok, extra := .none } hw' rfl)).alike ?_
      simp only [State.deliver, hdetached, if_true]
      rfl
    · rename_i hattached
      cases h
      have hdeliver : ∀ x : Lane, ∀ r, Moves Q k s (u.setLane l x) →
          Moves Q k s (u.setLane l (x.pushResult r)).endWork := by
        intro x r hx
        refine (hx.move (.deliver _ l r (by exact hw') rfl)).alike ?_
        simp only [State.deliver, hattached, State.lane_setLane, if_true, State.setLane_setLane]
        exact Alike.refl _
      unfold Lane.verify
      split
      · refine hdeliver _ _ (hdue.alike (alike_setLane _ _ rfl))
      · rename_i session hsession
        have hentry : ((u.lane l).sessions[handleEntry v.handle]).session = some session := by
          unfold Lane.current at hsession
          dsimp only at hsession
          split at hsession
          · exact hsession
          · cases hsession
        split
        · exact hdeliver _ _ (hdue.move (.verified l _ session hentry))
        · exact hdeliver _ _ ((hdue.move (.closes fun m e' _ => m == l && e' == handleEntry v.handle)).alike
            (alike_closeEntry ..))
  · cases h; exact .refl s

theorem execSealCompletion_moves {t : State} (h : execSealCompletion s = .next t) : Moves Q k s t := by
  unfold execSealCompletion at h
  split at h
  · rename_i hw
    cases h
    obtain ⟨left, hw'⟩ := State.elapse_work_some hw
    exact (alike_elapse ..).moves.move (.deliver _ _ _ hw' rfl)
  · cases h; exact .refl s

/-! ### Session lifetime -/

theorem execSessionExpiry_moves {t : State} (l : LaneIx) (e : EntryIx) (h : execSessionExpiry l e s = .next t) :
    Moves Q k s t := by
  unfold execSessionExpiry at h
  split at h
  · rename_i x hx
    split at h
    · cases h
      have hdue : Moves Q k s (s.wait (x.untilExpiry s.sessionLife s.clock.time)) := (alike_wait ..).moves
      exact (hdue.move (.closes fun m e' _ => m == l && e' == e)).alike
        ((alike_closeEntry ..).trans (alike_setLane_setLane _ _ _ (Lane.flag_view ..)))
    · cases h; exact .refl s
  · cases h; exact .refl s

end

end Sys2Proof.Machine

/-! PROOFS. The commands on keys, on the write engine, on the ring and on the supply as chains of moves, and with them every
command. -/

namespace Sys2Proof.Machine

section
variable {Q : Prop} {k : MoveKind} {s t : State}

/-! ### The write engine between operations -/

theorem State.on_of_running (h : s.power = .running) : s.On := by simp [State.On, h]

theorem State.Quiet.on {a : ActiveOp} (h : s.Quiet) (ha : s.engine.active = some a) : s.On := by
  constructor <;> intro hp
  · simp [h (.inl hp)] at ha
  · simp [h (.inr hp)] at ha

theorem State.idle_iff : s.idle = true ↔ s.engine.active = none ∧ s.requestOutstanding = false := by
  simp [State.idle]

theorem State.requestOutstanding_eq_false (h : s.requestOutstanding = false) : s.engine.counterRequest = none := by
  simp only [State.requestOutstanding, Bool.or_eq_false_iff] at h
  simpa using h.1.1

theorem State.engineCheck_eq_none (h : s.engineCheck = none) :
    s.engine.active = none ∧ s.engine.held = none ∧ s.engine.counterRequest = none := by
  unfold State.engineCheck at h
  split at h
  · cases h
  · split at h
    · cases h
    · rename_i hi hh
      have hi : s.idle = true := by simpa using hi
      obtain ⟨ha, hr⟩ := State.idle_iff.mp hi
      exact ⟨ha, by simpa using hh, State.requestOutstanding_eq_false hr⟩

theorem startInternal_moves (hon : Q → s.On) (ha : s.engine.active = none) : Moves Q k s s.startInternal := by
  refine State.startInternal_cases s (Moves Q k s) ?_ ?_ ?_ ?_
  · exact fun r hr => (Move.reservation r 1000 hon ha hr).moves
  · exact fun r _ _ => (Move.genRecord r.c r.h r.retry 1000 hon ha).moves.alike rfl
  · exact fun _ _ _ => (Move.retireMarks s.retireSet s.engine.retireRetry 1000 hon ha).moves.alike rfl
  · exact fun _ => .refl s

theorem proceed_moves (hon : Q → s.On) (ha : s.engine.active = none) : Moves Q k s s.proceed := by
  refine State.proceed_cases s (Moves Q k s) ?_ ?_ ?_
  · exact fun _ => startInternal_moves hon ha
  · exact fun op left _ hh => (Move.resume { op := op, remaining := left, by_ := .auto } hon ha hh).moves
  · exact fun _ _ => .refl s

/-- After an operation has ended the engine goes on. -/
theorem Moves.proceed (h : Moves Q k s t) (hon : Q → s.On) (hp : t.power = s.power) (ha : t.engine.active = none) :
    Moves Q k s t.proceed :=
  h.trans (proceed_moves (fun q => by simpa only [State.On, hp] using hon q) ha)

/-! ### LOAD -/

theorem State.lockedSlot_of_protectionRefusal {i : SlotIx} (h : s.protectionRefusal i = none) : s.lockedSlot i = false := by
  unfold State.protectionRefusal at h
  split at h
  · cases h
  · exact Bool.of_not_eq_true ‹_›

/-- The engine check of a LOAD leaves beside it an erase that does not target its slot (R128). -/
theorem State.loadEngineCheck_eq_none {a : LoadArgs} {i : SlotIx} (h : s.loadEngineCheck a = none)
    (ht : s.loadTarget a = .ok i) :
    s.engine.active = none ∧ ∀ x, s.engine.held = some x → x.op.isProgram = false ∧ x.op.targets i = false := by
  unfold State.loadEngineCheck at h
  split at h
  · cases h
  · rename_i hi
    have hi : s.idle = true := by simpa using hi
    refine ⟨(State.idle_iff.mp hi).1, ?_⟩
    split at h
    · rename_i hh
      intro x hx
      rw [hh] at hx; cases hx
    · cases h
    · rename_i op left who hnot hh
      rw [ht] at h
      intro x hx
      rw [hh] at hx
      cases hx
      cases op with
      | program j => exact (hnot j rfl).elim
      | eraseSlot j => exact ⟨rfl, by simpa using h⟩
      | eraseBank b => exact ⟨rfl, by simpa using h⟩

/-- The target of a RING load is the slot of its generation's position (R129). -/
theorem State.loadTarget_ring {a : LoadArgs} {i : SlotIx} (h : s.loadTarget a = .ok i) (hr : a.isRing = true) :
    s.ring.live = true ∧ i = s.ring.slotAt s.store.geometry (s.ring.position (a.target.setWidth 12)) := by
  have hk : a.targetKind = 0x01 := by simpa [LoadArgs.isRing] using hr
  unfold State.loadTarget at h
  rw [if_pos hk] at h
  split at h
  · cases h
  · rename_i hl
    split at h
    · cases h
    · dsimp only at h
      split at h
      · cases h
        exact ⟨by simpa using hl, rfl⟩
      · cases h

theorem State.checkLoad_eq_ok {a : LoadArgs} {l : Load} (h : s.checkLoad a = .ok l) :
    s.loadEngineCheck a = none ∧ s.loadTarget a = .ok l.slot ∧ s.protectionRefusal l.slot = none ∧
      (s.slot l.slot).state = .blank ∧ l.generation = if a.isRing then some (a.target.setWidth 12) else none := by
  unfold State.checkLoad at h
  split at h
  · cases h
  · split at h
    · cases h
    · rename_i hengine
      split at h
      · cases h
      · rename_i i htarget
        split at h
        · cases h
        · rename_i hprotect
          split at h
          · cases h
          · rename_i hblank
            split at h
            · cases h
            · split at h
              · cases h
              · split at h
                · cases h
                · split at h
                  · cases h
                  · cases h
                    exact ⟨hengine, htarget, hprotect, Classical.not_not.mp hblank, rfl⟩

theorem loadRule_moves (a : LoadArgs) (hrun : s.power = .running) : Moves Q k s (loadRule a s).1 := by
  unfold loadRule
  split
  · exact .refl s
  · rename_i l hl
    obtain ⟨hengine, htarget, hprotect, hblank, hgen⟩ := State.checkLoad_eq_ok hl
    obtain ⟨hactive, hheld⟩ := State.loadEngineCheck_eq_none hengine htarget
    have hring : l.generation.isSome = true → s.ring.live = true ∧
        l.slot = s.ring.slotAt s.store.geometry (s.ring.position (l.generation.getD 0)) := by
      rw [hgen]
      intro hsome
      cases hr : a.isRing
      · simp [hr] at hsome
      · simpa using State.loadTarget_ring htarget hr
    exact (Alike.moves (alike_spendPermit s)).move (.load (s := s.spendPermit) l (State.on_of_running hrun) hactive hheld
      hblank (State.lockedSlot_of_protectionRefusal hprotect) hring)

theorem execUnwrapCompletion_moves (h : execUnwrapCompletion s = .next t) : Moves Q k s t := by
  unfold execUnwrapCompletion at h
  split at h
  · rename_i req detached left load kx hw
    obtain ⟨left', hw'⟩ := State.elapse_work_some (n := left) hw
    have hdue : Moves Q k s (s.elapse left) := (alike_elapse ..).moves
    generalize s.elapse left = u at h hw' hdue
    have hdropped : Moves Q k s (u.endWork.endOp.outcome .program (.slot load.slot) .kcvMismatch false) :=
      (hdue.move (.dropUnwrap _ load kx hw' rfl)).alike rfl
    have hbegun : ∀ key, Moves Q k s (u.endWork.beginProgram load key) := fun key =>
      hdue.move (.program _ load kx key hw' rfl)
    cases kx with
    | none =>
      dsimp only at h
      split at h
      · cases h; exact hbegun _
      · cases h; exact hdropped
    | some x =>
      dsimp only at h
      split at h
      · cases h; exact hbegun _
      · cases h; exact hdropped
  · cases h; exact .refl s

/-! ### Erases and RETIRE -/

theorem State.protectedSlot_of_lockedSlot {i : SlotIx} (h : s.lockedSlot i = true) : s.protectedSlot i = true := by
  unfold State.lockedSlot at h
  unfold State.protectedSlot
  split at h
  · simp [AreaProtection.effective, h]
  · cases h

theorem State.eraseCheck_eq_none {op : SlotOp} (h : s.eraseCheck op = none) :
    s.engineCheck = none ∧ ∀ i, op.targets i = true → s.lockedSlot i = false := by
  unfold State.eraseCheck at h
  split at h
  · cases h
  · refine ⟨‹_›, fun i hi => ?_⟩
    split at h
    · cases h
    · rename_i hlocked
      rw [Bool.not_eq_true, List.any_eq_false] at hlocked
      have hi' := hlocked i (List.mem_finRange i)
      cases hl : s.lockedSlot i
      · rfl
      · simp [hi, hl, State.protectedSlot_of_lockedSlot hl] at hi'

theorem acceptErase_moves (op : SlotOp) (number : Byte) (time : Nat) (hrun : s.power = .running)
    (hop : op.isProgram = false) (hc : s.eraseCheck op = none) : Moves Q k s (acceptErase op number time s).1 := by
  obtain ⟨hengine, hlocked⟩ := State.eraseCheck_eq_none hc
  obtain ⟨hactive, hheld, -⟩ := State.engineCheck_eq_none hengine
  exact (Alike.moves (alike_spendPermit s)).move
    (.erase (s := s.spendPermit) op time ⟨State.on_of_running hrun, hactive, hheld⟩ hop hlocked)

theorem eraseSlotRule_moves (b : Byte) (hrun : s.power = .running) : Moves Q k s (eraseSlotRule b s).1 := by
  unfold eraseSlotRule
  split
  · exact .refl s
  · split
    · exact .refl s
    · split
      · exact .refl s
      · exact acceptErase_moves _ b _ hrun rfl ‹_›

theorem eraseBankRule_moves (b : Byte) (hrun : s.power = .running) : Moves Q k s (eraseBankRule b s).1 := by
  unfold eraseBankRule
  split
  · exact .refl s
  · split
    · exact .refl s
    · split
      · exact .refl s
      · exact acceptErase_moves _ b _ hrun rfl ‹_›

theorem retireRule_moves (b : Byte) : Moves Q k s (retireRule b s).1 := by
  unfold retireRule
  split
  · exact .refl s
  · split
    · exact .refl s
    · rename_i i _
      split
      · exact .refl s
      · rename_i hlocked
        split
        · exact .refl s
        · rename_i hloaded
          have hretired : Moves Q k s (s.spendPermit.retireSlots (· == i)) :=
            (Alike.moves (alike_spendPermit s)).move
              (.retire (s := s.spendPermit) i (Classical.not_not.mp hloaded) (Bool.of_not_eq_true hlocked))
          unfold acceptRetire
          dsimp only [reply]
          split
          · exact hretired.alike (alike_flagLanes ..)
          · exact hretired

/-! ### SUSPEND and RESUME -/

theorem suspendRule_moves : Moves Q k s (suspendRule s).1 := by
  unfold suspendRule
  split
  · exact .refl s
  · rename_i op left hheld
    split
    · exact .refl s
    · exact (Move.rehold { op := op, remaining := left, by_ := .auto } .site hheld).moves
  · rename_i hheld
    split
    · split
      · exact .refl s
      · exact (Move.hold .site hheld).moves
    · exact .refl s

theorem resumeRule_moves (hrun : s.power = .running) : Moves Q k s (resumeRule s).1 := by
  unfold resumeRule
  split
  · rename_i op left hheld
    split
    · rename_i hi
      exact (Move.resume { op := op, remaining := left, by_ := .site } (fun _ => State.on_of_running hrun)
        (State.idle_iff.mp hi).1 hheld).moves.alike rfl
    · exact .refl s
  · exact .refl s

/-! ### The ring -/

theorem State.live_of_nextReady (h : s.nextReady = true) : s.ring.live = true := by
  simp only [State.nextReady, Bool.and_eq_true] at h
  exact h.1.1

theorem advanceRule_moves : Moves Q k s (advanceRule s).1 := by
  unfold advanceRule
  split
  · exact .refl s
  · split
    · rename_i h
      exact (Move.advance (State.live_of_nextReady h)).moves
    · exact .refl s

theorem cancelRule_moves : Moves Q k s (cancelRule s).1 := by
  unfold cancelRule
  split
  · exact Alike.moves rfl
  · exact .refl s

theorem execRotationTimerExpiry_moves (h : execRotationTimerExpiry s = .next t) : Moves Q k s t := by
  unfold execRotationTimerExpiry at h
  split at h
  · dsimp only at h
    have hdue : Moves Q k s (s.wait s.ring.untilExpiry) := (alike_wait ..).moves
    split at h
    · rename_i hr
      cases h
      exact hdue.move (.advance (State.live_of_nextReady hr))
    · cases h
      exact hdue.alike rfl
  · cases h; exact .refl s

theorem State.holderOf_inRing {g : Gen} {i : SlotIx} (h : s.holderOf g = some i) : s.inRing i = true := by
  have := List.find?_some h
  simp only [Bool.and_eq_true] at this
  exact this.1.1

theorem setCurrentRule_moves (w : BitVec 16) (hrun : s.power = .running) : Moves Q k s (setCurrentRule w s).1 := by
  unfold setCurrentRule
  split
  · exact .refl s
  · split
    · exact .refl s
    · rename_i hengine
      obtain ⟨hactive, hheld, -⟩ := State.engineCheck_eq_none hengine
      split
      · exact .refl s
      · rename_i hlive
        split
        · exact .refl s
        · split
          · exact .refl s
          · rename_i i hi
            exact (Alike.moves (alike_spendPermit s)).move (.setCurrent (s := s.spendPermit) i _ _
              ⟨State.on_of_running hrun, hactive, hheld⟩ (Bool.of_not_eq_true hlive) (State.holderOf_inRing hi))

theorem setCounterRule_moves (base : Nat) (hbase : base ≤ 4294967295) (hrun : s.power = .running) :
    Moves Q k s (setCounterRule base s).1 := by
  unfold setCounterRule
  split
  · exact .refl s
  · split
    · exact .refl s
    · rename_i hengine
      obtain ⟨hactive, hheld, hrequest⟩ := State.engineCheck_eq_none hengine
      split
      · exact .refl s
      · rename_i hbelow
        exact (Alike.moves (alike_spendPermit s)).move (.setCounter (s := s.spendPermit) base _ _
          ⟨State.on_of_running hrun, hactive, hheld⟩ hrequest (fun hu => Nat.le_of_not_lt fun hlt => hbelow ⟨hu, hlt⟩)
          (by simp only [Config.reserveStep, Config.counterTop]; omega) (Nat.min_le_right ..))

theorem le_of_argLong {payload : List Byte} {n : Nat} (h : argLong payload = some n) : n ≤ 4294967295 := by
  unfold argLong at h
  split at h
  · rename_i a b c d
    cases h
    simp only [beNat, List.foldl_cons, List.foldl_nil]
    have ha := a.isLt; have hb := b.isLt; have hc := c.isLt; have hd := d.isLt
    omega
  · cases h

/-! ### Settings commands -/

/-- A plan keeps the law of the settings, and only SET_GEOMETRY, which finds the rings empty, changes the geometry. -/
def PlanOk (s : State) (c : SettingsCommand) (r : Settings) : Prop :=
  (s.settings.Ok → s.ring.h < s.store.geometry.ring → r.Ok) ∧
  ((∀ c0, c ≠ .geometry c0) → r.geometry = s.store.geometry) ∧
  ((∃ c0, c = .geometry c0) → ∀ i, s.inRing i = true ∨ r.geometry.area i = .ring → (s.slot i).state = .blank)

theorem settingsRule_moves (freezes : Bool) (plan : State → SettingsPlan) (hrun : s.power = .running)
    (hplan : ∀ c r values, plan s = .ok (c, r, values) → PlanOk s c r) :
    Moves Q k s (settingsRule freezes plan s).1 := by
  refine settingsRule_cases s freezes plan (fun x => Moves Q k s x.1) (fun _ => .refl s) fun c r values _ hi hh _ hp => ?_
  obtain ⟨hok, hgeo, hempty⟩ := hplan c r values hp
  exact (Alike.moves (alike_spendPermit s)).move (.settings (s := s.spendPermit) c r 6000
    ⟨State.on_of_running hrun, (State.idle_iff.mp hi).1, hh⟩ hok hgeo hempty)

/-- A plan that changes neither the geometry nor the window. -/
theorem planOk_of_frame {c : SettingsCommand} {r : Settings} (hc : ∀ c0, c ≠ .geometry c0)
    (hg : r.geometry = s.store.geometry) (hb : r.back = s.ring.back) (ha : r.ahead = s.ring.ahead) : PlanOk s c r := by
  refine ⟨fun hok _ => ?_, fun _ => hg, fun ⟨c0, h⟩ => absurd h (hc c0)⟩
  unfold Settings.Ok at hok ⊢
  rw [hg, hb, ha]
  exact hok

theorem rotationPlan_ok (n : Nat) {c : SettingsCommand} {r : Settings} {values : List Byte}
    (h : rotationPlan n s = .ok (c, r, values)) : PlanOk s c r := by
  cases h
  exact planOk_of_frame (by simp) rfl rfl rfl

theorem windowPlan_ok (back ahead : Byte) {c : SettingsCommand} {r : Settings} {values : List Byte}
    (h : windowPlan back ahead s = .ok (c, r, values)) : PlanOk s c r := by
  unfold windowPlan at h
  dsimp only at h
  split at h
  · cases h
  · cases h
    refine ⟨fun hok _ => ⟨hok.1, Nat.min_le_right .., Nat.min_le_right ..⟩, fun _ => rfl, fun ⟨c0, h⟩ => ?_⟩
    cases h

theorem geometryPlan_ok (head ring : Byte) (c0 : BitVec 16) {c : SettingsCommand} {r : Settings} {values : List Byte}
    (h : geometryPlan head ring c0 s = .ok (c, r, values)) : PlanOk s c r := by
  unfold geometryPlan at h
  dsimp only at h
  split at h
  · cases h
  · rename_i hbad
    split at h
    · cases h
    · rename_i hrings
      split at h
      · cases h
      · cases h
        refine ⟨fun hok _ => ⟨?sizes, Nat.min_le_right .., hok.2.2⟩, fun h => absurd rfl (h _), fun _ i hi => ?blank⟩
        case sizes =>
          simp only [badGeometry, Bool.or_eq_true, decide_eq_true_eq, not_or] at hbad
          simp only [Geometry.Ok, Geometry.tail]
          omega
        case blank =>
          rw [Bool.not_eq_true, List.any_eq_false] at hrings
          have := hrings i (List.mem_finRange i)
          simp only [Bool.and_eq_true, Bool.or_eq_true, beq_iff_eq, bne_iff_ne, not_and, Classical.not_not] at this
          exact this hi

theorem protectPlan_ok (area value : Byte) {c : SettingsCommand} {r : Settings} {values : List Byte}
    (h : protectPlan area value s = .ok (c, r, values)) : PlanOk s c r := by
  unfold protectPlan at h
  split at h
  · cases h
  · rename_i a _
    cases h
    exact planOk_of_frame (by simp) (by cases a <;> rfl) (by cases a <;> rfl) (by cases a <;> rfl)

theorem lockPlan_ok (area : Byte) {c : SettingsCommand} {r : Settings} {values : List Byte}
    (h : lockPlan area s = .ok (c, r, values)) : PlanOk s c r := by
  unfold lockPlan at h
  split at h
  · cases h
  · split at h
    · cases h
    · cases h
      exact planOk_of_frame (by simp) rfl rfl rfl

theorem freezePlan_ok (value : Byte) {c : SettingsCommand} {r : Settings} {values : List Byte}
    (h : freezePlan value s = .ok (c, r, values)) : PlanOk s c r := by
  cases h
  exact planOk_of_frame (by simp) rfl rfl rfl

theorem sitePlan_ok (code : BitVec 16) {c : SettingsCommand} {r : Settings} {values : List Byte}
    (h : sitePlan code s = .ok (c, r, values)) : PlanOk s c r := by
  cases h
  exact planOk_of_frame (by simp) rfl rfl rfl

theorem lanesPlan_ok (mask : Byte) {c : SettingsCommand} {r : Settings} {values : List Byte}
    (h : lanesPlan mask s = .ok (c, r, values)) : PlanOk s c r := by
  unfold lanesPlan at h
  split at h
  · cases h
  · cases h
    exact planOk_of_frame (by simp) rfl rfl rfl

theorem protectRule_moves (arg : Byte × Byte × Byte) (hrun : s.power = .running) : Moves Q k s (protectRule arg s).1 := by
  unfold protectRule
  split
  · unfold protectVolatileRule
    split
    · exact .refl s
    · split
      · exact .refl s
      · rename_i a _
        refine Alike.moves ?_
        unfold Alike State.view
        dsimp only [reply]
        congr 1
        funext b
        cases a <;> cases b <;> rfl
  · split
    · exact settingsRule_moves _ _ hrun fun _ _ _ => protectPlan_ok _ _
    · exact .refl s

end

end Sys2Proof.Machine

/-! PROOFS. The completions of the write engine and the events of the supply as chains of moves, and with them every command. -/

namespace Sys2Proof.Machine

section
variable {Q : Prop} {k : MoveKind} {s t : State}

/-! ### Frames of what the completions use -/

theorem alike_setNvSlot (s : State) (i : SlotIx) (x : NvSlot) : Alike s (s.setNvSlot i x) := by
  simp [Alike, State.view]

theorem alike_faultSettings (s : State) (v : Bool) : Alike s (s.faultSettings v) := rfl
theorem alike_faultGeneration (s : State) (v : Bool) : Alike s (s.faultGeneration v) := rfl
theorem alike_faultCounter (s : State) (v : Bool) : Alike s (s.faultCounter v) := rfl
theorem alike_faultRetireMarks (s : State) (v : Bool) : Alike s (s.faultRetireMarks v) := rfl
theorem alike_putGeneration (s : State) (r : NvRecord GenRecord) : Alike s (s.putGeneration r) := rfl
theorem alike_draws (s : State) (n : Nat) : Alike s { s with draws := n } := rfl

theorem alike_scatterMarks (s : State) (taken : List SlotIx) : Alike s (s.scatterMarks taken) := by
  unfold State.scatterMarks
  exact (alike_mapNvSlots ..).trans (alike_draws ..)

theorem alike_endOp {s t : State} (h : Alike s t) : Alike s.endOp t.endOp :=
  congrArg (fun v : View => ({ v with active := none } : View)) h

theorem State.report_endOp (s : State) : s.endOp.report = s.report.endOp := rfl

theorem State.alignmentCheck_engine (s : State) : s.alignmentCheck.engine = s.engine := by rw [s.alignmentCheck_frame]

theorem State.alignmentCheck_power (s : State) : s.alignmentCheck.power = s.power := by rw [s.alignmentCheck_frame]

theorem State.advance_active (s : State) : s.advance.engine.active = s.engine.active := by
  simp [State.advance, State.requestGenRecord, State.alignmentCheck_engine]

theorem State.advance_power (s : State) : s.advance.power = s.power := by
  simp [State.advance, State.requestGenRecord, State.alignmentCheck_power]

theorem examineLowWater_moves : Moves Q k s s.examineLowWater := by
  refine State.examineLowWater_cases s (Moves Q k s) (fun hlow => ?_) fun _ => .refl s
  simp only [Counter.lowWater, Bool.and_eq_true, decide_eq_true_eq, Bool.not_eq_true', beq_iff_eq] at hlow
  obtain ⟨⟨⟨⟨hrun, -⟩, hlimit⟩, hres⟩, hset⟩ := hlow
  exact (Move.ask hrun hres hset (.inl hlimit)).moves

/-- What the wait for a completion leaves: a part with power whose active operation is the one that completes. -/
theorem State.wait_active {op : Operation} {left n : Nat} (h : s.engine.active = some { op := op, remaining := left }) :
    (s.wait n).engine.active.map (·.op) = some op := by
  rw [State.wait_active_op, h]; rfl

theorem State.Quiet.wait_on {a : ActiveOp} {n : Nat} (h : s.Quiet) (ha : s.engine.active = some a) : (s.wait n).On := by
  simpa only [State.On, State.wait_power] using h.on ha

/-! ### Programs and erases -/

theorem finishProgram_moves (i : SlotIx) (verified : Bool) (hon : Q → s.On)
    (ha : s.engine.active.map (·.op) = some (.slotOp (.program i))) : Moves Q k s (s.finishProgram i verified) := by
  have hended : Moves Q k s (s.endProgram i) := (alike_setNvSlot ..).moves
  have hslot : (s.endProgram i).slot i = s.slot i := State.slot_setNvSlot ..
  unfold State.finishProgram
  split
  · have hfailed : Moves Q k s (s.programFailed i).endOp := (Move.programFailed i ha).moves.alike rfl
    exact hfailed.proceed hon rfl rfl
  · have hloaded : (s.inRing i = true → s.ring.live = true ∧ s.aligned i = true) →
        Moves Q k s (s.programLoaded i).endOp := fun h =>
      (hended.move (.programLoaded (s := s.endProgram i) i ha h)).alike rfl
    split
    · rename_i hring
      exact (hloaded (by simp [hring])).proceed hon rfl rfl
    · split
      · rename_i haligned
        obtain ⟨hlive, haligned⟩ := Bool.and_eq_true .. ▸ haligned
        have hloaded := hloaded fun _ => ⟨hlive, haligned⟩
        have htold : Moves Q k s (if s.inWindow i then (s.programLoaded i).endOp.flagLanes .ringChanged
            else (s.programLoaded i).endOp) := by
          split
          · exact hloaded.alike (alike_flagLanes ..)
          · exact hloaded
        have hframe : ∀ u, u = (if s.inWindow i then (s.programLoaded i).endOp.flagLanes .ringChanged
            else (s.programLoaded i).endOp) → u.power = s.power ∧ u.engine.active = none ∧ u.ring = s.ring := by
          rintro u rfl
          split <;> exact ⟨rfl, rfl, rfl⟩
        dsimp only
        obtain ⟨hpower, hactive, hring⟩ := hframe _ rfl
        split
        · exact (htold.move (.advance (by rw [hring, hlive]))).proceed hon
            (by rw [State.advance_power, hpower]) (by rw [State.advance_active, hactive])
        · exact htold.proceed hon hpower hactive
      · have hstale : Moves Q k s (s.programStale i).endOp :=
          (hended.move (.programStale (s := s.endProgram i) i ha)).alike rfl
        exact hstale.proceed hon rfl rfl

theorem execProgramComplete_moves (verified : Bool) (hq : Q → s.Quiet) (h : execProgramComplete verified s = .next t) :
    Moves Q k s t := by
  unfold execProgramComplete at h
  split at h
  · rename_i ha
    cases h
    exact (alike_wait ..).moves.trans
      (finishProgram_moves _ verified (fun q => (hq q).wait_on ha) (State.wait_active ha))
  · cases h; exact .refl s

theorem finishErase_moves (op : SlotOp) (failed : List SlotIx) (hon : Q → s.On) (hop : op.isProgram = false)
    (ha : s.engine.active.map (·.op) = some (.slotOp op)) : Moves Q k s (s.finishErase op failed) := by
  unfold State.finishErase
  dsimp only
  refine Moves.proceed ?_ hon (by simp) (by simp)
  exact (Move.erased op failed ha hop).moves.alike (alike_endOp ((alike_mapNvSlots ..).trans (alike_outcome ..)))

theorem execEraseComplete_moves (failed : List SlotIx) (hq : Q → s.Quiet) (h : execEraseComplete failed s = .next t) :
    Moves Q k s t := by
  unfold execEraseComplete at h
  split at h
  · rename_i ha
    cases h
    exact (alike_wait ..).moves.trans
      (finishErase_moves _ failed (fun q => (hq q).wait_on ha) rfl (State.wait_active ha))
  · rename_i ha
    cases h
    exact (alike_wait ..).moves.trans
      (finishErase_moves _ failed (fun q => (hq q).wait_on ha) rfl (State.wait_active ha))
  · cases h; exact .refl s

/-! ### Settings writes -/

section
variable {c : SettingsCommand} {r : Settings}

theorem settingsFailed_moves (hon : Q → s.On) (ha : s.engine.active.map (·.op) = some (.settings c r)) :
    Moves Q k s (s.settingsFailed c) := by
  have hended : Moves Q k s (((s.putSettings .damaged).faultSettings true).outcome .settings (.command c)
      .settingsFail false).endOp := (Move.settingsEnd c r .damaged ha (.inl rfl)).moves.alike rfl
  exact hended.proceed hon rfl rfl

/-- A settings write that verified, given its effect as moves. -/
theorem settingsDone_moves (apply : State → State) (hon : Q → s.On)
    (hp : (apply ((s.putSettings (.good r)).faultSettings false)).power = s.power)
    (happly : Moves Q k s (apply ((s.putSettings (.good r)).faultSettings false)).endOp) :
    Moves Q k s (s.settingsDone c r apply) := by
  have hended : Moves Q k s ((apply ((s.putSettings (.good r)).faultSettings false)).outcome .settings (.command c)
      .settingsOk true).endOp := happly.alike rfl
  exact hended.proceed hon hp rfl

/-- The effect of a settings write that no law reads, but for the settings record. -/
theorem settingsDone_moves_of_alike (apply : State → State) (hon : Q → s.On)
    (ha : s.engine.active.map (·.op) = some (.settings c r)) (happly : ∀ u, Alike u.endOp (apply u).endOp) :
    Moves Q k s (s.settingsDone c r apply) := by
  have hended : Moves Q k s ((s.putSettings (.good r)).faultSettings false).endOp :=
    (Move.settingsEnd c r (.good r) ha (.inr rfl)).moves.alike rfl
  exact settingsDone_moves apply hon (happly _).power (hended.alike (happly _))

theorem finishSettings_moves_of_alike (apply : State → State) (verified : Bool) (hon : Q → s.On)
    (ha : s.engine.active.map (·.op) = some (.settings c r)) (happly : ∀ u, Alike u.endOp (apply u).endOp) :
    Moves Q k s (s.finishSettings c r apply verified) := by
  unfold State.finishSettings
  split
  · exact settingsDone_moves_of_alike apply hon ha happly
  · exact settingsFailed_moves hon ha

end

theorem applyProtect_alike (a : FixedArea) (r : Settings) (s : State) : Alike s.endOp (applyProtect a r s).endOp := by
  unfold Alike State.view
  congr 1
  funext b
  cases a <;> cases b <;> rfl

theorem finishWindow_moves (r : Settings) (verified : Bool) (hon : Q → s.On)
    (ha : s.engine.active.map (·.op) = some (.settings .window r)) :
    Moves Q k s (s.finishSettings .window r (applyWindow r) verified) := by
  unfold State.finishSettings
  split
  · refine settingsDone_moves _ hon ?_ ?_
    · unfold applyWindow
      dsimp only
      rw [State.flagLanes_power]
      exact State.alignmentCheck_power _
    · exact (alike_faultSettings s false).moves.move (.windowSet (s := s.faultSettings false) r ha)
  · exact settingsFailed_moves hon ha

theorem Lane.switch_view (before after : Bool) (x : Lane) :
    (x.switch before after).view = (if before && !after then x.discard else x).view := by
  unfold Lane.switch
  cases before <;> cases after <;> rfl

theorem detachShut_work (before after : BitVec 4) (c : Cipher) :
    (c.detachShut before after).work.map Work.view = (c.work.map fun w => match w.requester with
      | .lane l => if before.getLsbD l.val && !after.getLsbD l.val then { w with detached := true } else w
      | .site => w).map Work.view := by
  have hlanes : allLanes = [0, 1, 2, 3] := rfl
  have hdetach : ∀ (c : Cipher) (l : LaneIx), (if before.getLsbD l.val && !after.getLsbD l.val then c.detach l else c) =
      { c with work := c.work.map fun w => if (before.getLsbD l.val && !after.getLsbD l.val) = true ∧ w.requester = .lane l
          then { w with detached := true } else w } := by
    intro c l
    split
    · simp_all [Cipher.detach]
    · rename_i hn
      rcases c with ⟨_ | w, last⟩ <;> simp_all
  unfold Cipher.detachShut
  rw [hlanes]
  simp only [List.foldl_cons, List.foldl_nil, hdetach]
  rcases c with ⟨_ | ⟨req, d, left, task⟩, last⟩
  · rfl
  · cases req with
    | site => simp
    | lane l =>
      simp only [Option.map_some]
      match l with
      | 0 | 1 | 2 | 3 => simp <;> split <;> simp_all [Work.view]

theorem applyLanes_moves (r : Settings) : Moves Q k s (applyLanes r s) := by
  refine (Move.discards fun l => s.laneEnable.getLsbD l.val && !r.laneEnable.getLsbD l.val).moves.alike ?_
  have hlanes : (fun l => ((applyLanes r s).lane l).view) = fun l =>
      ((s.discards fun l => s.laneEnable.getLsbD l.val && !r.laneEnable.getLsbD l.val).lane l).view := by
    funext l
    have hleft : (applyLanes r s).lane l =
        (s.lane l).switch (s.laneEnable.getLsbD l.val) (r.laneEnable.getLsbD l.val) :=
      s.lane_mapLanesAt (fun l x => x.switch (s.laneEnable.getLsbD l.val) (r.laneEnable.getLsbD l.val)) l
    have hright : (s.discards fun l => s.laneEnable.getLsbD l.val && !r.laneEnable.getLsbD l.val).lane l =
        if s.laneEnable.getLsbD l.val && !r.laneEnable.getLsbD l.val then (s.lane l).discard else s.lane l :=
      s.lane_mapLanesAt (fun l x => if s.laneEnable.getLsbD l.val && !r.laneEnable.getLsbD l.val then x.discard else x) l
    rw [hleft, hright, Lane.switch_view]
  have hwork := detachShut_work s.laneEnable r.laneEnable s.cipher
  unfold Alike State.view
  rw [hlanes]
  exact congrArg (fun w => View.mk s.pending s.power s.rst s.store s.array.settings s.array.counter s.ring.live s.ring.c
    s.ring.h s.ring.back s.ring.ahead _ w s.cache s.counter (s.engine.active.map (·.op)) s.engine.held
    s.engine.counterRequest fun a => (s.protection.area a).lock) hwork

theorem finishLanes_moves (r : Settings) (verified : Bool) (hon : Q → s.On)
    (ha : s.engine.active.map (·.op) = some (.settings .lanes r)) :
    Moves Q k s (s.finishSettings .lanes r (applyLanes r) verified) := by
  unfold State.finishSettings
  split
  · refine settingsDone_moves _ hon rfl ?_
    have hset : Moves Q k s (applyLanes r (s.faultSettings false)) :=
      (alike_faultSettings s false).moves.trans (applyLanes_moves r)
    exact hset.move (.settingsEnd (s := applyLanes r (s.faultSettings false)) .lanes r (.good r) ha (.inr rfl))
  · exact settingsFailed_moves hon ha

theorem execSetGeometryComplete_moves (verified : Bool) (hq : Q → s.Quiet)
    (h : execSetGeometryComplete verified s = .next t) : Moves Q .geometry s t := by
  unfold execSetGeometryComplete at h
  split at h
  · rename_i c0 r left ha
    have hactive := State.wait_active (n := s.untilComplete) ha
    have hon : Q → (s.wait s.untilComplete).On := fun q => (hq q).wait_on ha
    refine Moves.trans (Alike.moves (alike_wait s s.untilComplete)) ?_
    dsimp only at h
    generalize s.wait s.untilComplete = u at h hactive hon
    split at h
    · cases h
      have hwritten : Moves Q .geometry u
          ((u.putGeneration (.good { live := true, c := c0, h := 0 })).faultGeneration false) :=
        ((alike_putGeneration ..).trans (alike_faultGeneration ..)).moves
      refine hwritten.trans (settingsDone_moves _ hon rfl ?_)
      exact (alike_faultSettings _ false).moves.trans (Move.geometrySet
        (s := ((u.putGeneration (.good { live := true, c := c0, h := 0 })).faultGeneration false).faultSettings false)
        c0 r hactive).special
    · cases h
      have hspoilt : Moves Q .geometry u ((u.putGeneration .damaged).faultGeneration true) :=
        ((alike_putGeneration ..).trans (alike_faultGeneration ..)).moves
      exact hspoilt.trans (settingsFailed_moves hon hactive)
  · cases h; exact .refl s

theorem execLockAreaComplete_moves (recordVerified cellVerified : Bool) (hq : Q → s.Quiet)
    (h : execLockAreaComplete recordVerified cellVerified s = .next t) : Moves Q k s t := by
  unfold execLockAreaComplete at h
  split at h
  · rename_i a r left ha
    have hactive := State.wait_active (n := s.untilComplete) ha
    have hon : Q → (s.wait s.untilComplete).On := fun q => (hq q).wait_on ha
    refine Moves.trans (Alike.moves (alike_wait s s.untilComplete)) ?_
    dsimp only at h
    generalize s.wait s.untilComplete = u at h hactive hon
    split at h
    · cases h
      exact settingsFailed_moves hon hactive
    · split at h
      · cases h
        refine settingsDone_moves _ hon (by cases a <;> rfl) ?_
        exact (alike_faultSettings u false).moves.trans
          (Move.lockSet (s := u.faultSettings false) a r hactive).moves
      · cases h
        have hended : Moves Q k u ((u.putSettings (.good r)).outcome .settings (.command (.lock a)) .settingsFail
            false).endOp := (Move.settingsEnd _ r (.good r) hactive (.inr rfl)).moves.alike rfl
        exact hended.proceed hon rfl rfl
  · cases h; exact .refl s

/-! ### Records -/

theorem applyCurrent_power (c : Gen) (h : Nat) (s : State) : (applyCurrent c h s).power = s.power := by
  simp [applyCurrent, State.alignmentCheck_power]

theorem execSetCurrentComplete_moves (verified : Bool) (hq : Q → s.Quiet)
    (h : execSetCurrentComplete verified s = .next t) : Moves Q k s t := by
  unfold execSetCurrentComplete at h
  split at h
  · rename_i i c hd left ha
    have hactive := State.wait_active (n := s.untilComplete) ha
    have hon : Q → (s.wait s.untilComplete).On := fun q => (hq q).wait_on ha
    refine Moves.trans (Alike.moves (alike_wait s s.untilComplete)) ?_
    dsimp only at h
    generalize s.wait s.untilComplete = u at h hactive hon
    split at h
    · cases h
      have hwritten : Moves Q k u
          ((u.putGeneration (.good { live := true, c := c, h := hd })).faultGeneration false) :=
        ((alike_putGeneration ..).trans (alike_faultGeneration ..)).moves
      have hset := hwritten.move (.currentSet (s := State.faultGeneration false _) i c hd hactive)
      refine Moves.proceed (hset.alike (alike_outcome _ .genRecord (.slot i) .recordOk true)) hon ?_ rfl
      simp [applyCurrent_power, State.faultGeneration]
    · cases h
      have hended : Moves Q k u (((u.putGeneration .damaged).faultGeneration true).outcome .genRecord (.slot i)
          .recordFail false).endOp := (Move.recordEnds _ hactive (.inr (.inr ⟨i, c, hd, rfl⟩))).moves.alike rfl
      exact hended.proceed hon rfl rfl
  · cases h; exact .refl s

theorem State.examineLowWater_outcome_endOp (s : State) (kind : OutcomeKind) (target : Target) (code : Code) (good : Bool) :
    Alike s.endOp.examineLowWater (s.examineLowWater.outcome kind target code good).endOp := by
  unfold State.examineLowWater
  by_cases h : s.counter.lowWater = true
  · rw [if_pos h, if_pos (by exact h)]; rfl
  · rw [if_neg h, if_neg (by exact h)]; rfl

theorem State.examineLowWater_power (s : State) : s.examineLowWater.power = s.power := by rw [s.examineLowWater_frame]

theorem State.examineLowWater_active (s : State) : s.examineLowWater.engine.active = s.engine.active := by
  unfold State.examineLowWater
  split <;> rfl

theorem execSetCounterComplete_moves (verified : Bool) (hq : Q → s.Quiet)
    (h : execSetCounterComplete verified s = .next t) : Moves Q .counterSet s t := by
  unfold execSetCounterComplete at h
  split at h
  · rename_i base limit left ha
    have hactive := State.wait_active (n := s.untilComplete) ha
    have hon : Q → (s.wait s.untilComplete).On := fun q => (hq q).wait_on ha
    refine Moves.trans (Alike.moves (alike_wait s s.untilComplete)) ?_
    dsimp only at h
    generalize s.wait s.untilComplete = u at h hactive hon
    -- what follows the counter's change, whether it succeeded or not
    have hfollow : ∀ (v : State) (code : Code) (good : Bool), Moves Q .counterSet u v.endOp → v.power = u.power →
        Moves Q .counterSet u ((v.report.examineLowWater.outcome .counterRecord .none code good).endOp.proceed) := by
      intro v code good hv hp
      have hreported : Moves Q .counterSet u v.report.endOp := v.report_endOp ▸ hv.move .leaveWait
      refine Moves.proceed ((hreported.trans examineLowWater_moves).alike
        (v.report.examineLowWater_outcome_endOp ..)) hon ?_ ?_
      · simp [State.examineLowWater_power, hp]
      · simp
    split at h
    · cases h
      refine hfollow _ _ _ ?_ ?_
      · exact (alike_faultCounter u false).moves.trans
          (Move.counterSet (s := u.faultCounter false) base limit hactive).special
      · unfold applyCounter
        split <;> rfl
    · cases h
      refine hfollow _ _ _ ?_ rfl
      exact (alike_faultCounter u true).moves.trans
        (Move.counterKept (s := u.faultCounter true) base limit hactive).special
  · cases h; exact .refl s

theorem State.retryGenRecord_frame (s : State) : Alike s s.retryGenRecord ∧ s.retryGenRecord.engine.active = s.engine.active := by
  unfold State.retryGenRecord
  split <;> exact ⟨rfl, rfl⟩

theorem execGenRecordComplete_moves (verified : Bool) (hq : Q → s.Quiet)
    (h : execGenRecordComplete verified s = .next t) : Moves Q k s t := by
  unfold execGenRecordComplete at h
  split at h
  · rename_i c hd retry left ha
    have hactive := State.wait_active (n := s.untilComplete) ha
    have hon : Q → (s.wait s.untilComplete).On := fun q => (hq q).wait_on ha
    refine Moves.trans (Alike.moves (alike_wait s s.untilComplete)) ?_
    dsimp only at h
    generalize s.wait s.untilComplete = u at h hactive hon
    have hended : Moves Q k u u.endOp := (Move.recordEnds _ hactive (.inl ⟨c, hd, retry, rfl⟩)).moves
    split at h
    · cases h
      exact Moves.proceed (hended.alike ((alike_putGeneration ..).trans (alike_faultGeneration ..))) hon rfl rfl
    · split at h
      · cases h
        exact Moves.proceed (hended.alike ((alike_putGeneration ..).trans
          ((alike_faultGeneration ..).trans (alike_flagSite ..)))) hon rfl rfl
      · cases h
        obtain ⟨halike, hnone⟩ := State.retryGenRecord_frame (u.endOp.putGeneration .damaged)
        have hspoilt : Moves Q k u (u.endOp.putGeneration .damaged) := hended.alike (alike_putGeneration ..)
        exact Moves.proceed (hspoilt.alike halike) hon halike.power hnone
  · cases h; exact .refl s

theorem execReservationComplete_moves (verified : Bool) (hq : Q → s.Quiet)
    (h : execReservationComplete verified s = .next t) : Moves Q k s t := by
  unfold execReservationComplete at h
  split at h
  · rename_i limit retry left ha
    have hactive := State.wait_active (n := s.untilComplete) ha
    have hon : Q → (s.wait s.untilComplete).On := fun q => (hq q).wait_on ha
    refine Moves.trans (Alike.moves (alike_wait s s.untilComplete)) ?_
    dsimp only at h
    generalize s.wait s.untilComplete = u at h hactive hon
    split at h
    · cases h
      have hraised := (Alike.moves (Q := Q) (k := k) (alike_faultCounter u false)).move
        (.reserved (s := u.faultCounter false) limit retry hactive)
      refine Moves.proceed ((hraised.move .leaveWait).trans examineLowWater_moves) hon ?_ ?_
      · rw [State.examineLowWater_power]; rfl
      · rw [State.examineLowWater_active]; rfl
    · split at h
      · rename_i hretry
        cases h
        rw [hretry] at hactive
        have hgiven := (Alike.moves (Q := Q) (k := k) ((alike_faultCounter u true).trans (alike_flagSite _ .nvFailed))).move
          (.reserveGivenUp (s := (u.faultCounter true).flagSite .nvFailed) limit hactive)
        exact Moves.proceed (hgiven.move .leaveWait) hon rfl rfl
      · rename_i hretry
        cases h
        rw [Bool.of_not_eq_true hretry] at hactive
        exact Moves.proceed (Move.reserveAgain limit hactive).moves hon rfl rfl
  · cases h; exact .refl s

theorem execRetireMarkComplete_moves (verified : Bool) (hq : Q → s.Quiet)
    (h : execRetireMarkComplete verified s = .next t) : Moves Q k s t := by
  unfold execRetireMarkComplete at h
  split at h
  · rename_i taken retry left ha
    have hactive := State.wait_active (n := s.untilComplete) ha
    have hon : Q → (s.wait s.untilComplete).On := fun q => (hq q).wait_on ha
    refine Moves.trans (Alike.moves (alike_wait s s.untilComplete)) ?_
    dsimp only at h
    generalize s.wait s.untilComplete = u at h hactive hon
    have hended : Moves Q k u u.endOp := (Move.recordEnds _ hactive (.inr (.inl ⟨taken, retry, rfl⟩))).moves
    have hscattered : Moves Q k u (u.endOp.scatterMarks taken) := hended.alike (alike_scatterMarks ..)
    split at h
    · cases h
      have hwritten : Moves Q k u (u.endOp.writeMarks taken) := hended.alike (alike_mapNvSlots ..)
      exact Moves.proceed ((hwritten.move (.dropMarks taken)).alike (alike_faultRetireMarks ..)) hon
        (by simp [State.faultRetireMarks, State.dropMarks, State.writeMarks])
        (by simp [State.faultRetireMarks, State.dropMarks, State.writeMarks])
    · split at h
      · cases h
        exact Moves.proceed ((hscattered.move (.dropMarks taken)).alike
          ((alike_faultRetireMarks ..).trans (alike_flagSite ..))) hon
          (by simp [State.faultRetireMarks, State.dropMarks, State.scatterMarks])
          (by simp [State.faultRetireMarks, State.dropMarks, State.scatterMarks])
      · cases h
        refine Moves.proceed (hscattered.alike ?_) hon ?_ ?_
        · rfl
        · simp [State.scatterMarks]
        · simp [State.scatterMarks]
  · cases h; exact .refl s

theorem ActiveOp.isErase_op {a : ActiveOp} (h : a.isErase = true) : ∃ op, a = { op := .slotOp op, remaining := a.remaining } := by
  obtain ⟨op, left⟩ := a
  unfold ActiveOp.isErase at h
  split at h
  · rename_i i hop
    exact ⟨.eraseSlot i, by rw [← hop]⟩
  · rename_i b hop
    exact ⟨.eraseBank b, by rw [← hop]⟩
  · cases h

theorem execInternalWriteStart_moves (h : execInternalWriteStart s = .next t) : Moves Q k s t := by
  unfold execInternalWriteStart at h
  split at h
  · rename_i hrun
    have hon : Q → s.On := fun _ => State.on_of_running hrun.1
    split at h
    · rename_i ha
      cases h
      exact startInternal_moves hon ha
    · rename_i a ha
      split at h
      · rename_i herase
        cases h
        simp only [Bool.and_eq_true, Option.isNone_iff_eq_none] at herase
        obtain ⟨op, hop⟩ := ActiveOp.isErase_op herase.1
        have hheld : (s.holdActive .auto).engine.active = none ∧ (s.holdActive .auto).power = s.power := by
          unfold State.holdActive
          rw [ha, hop]
          exact ⟨rfl, rfl⟩
        exact (Move.hold .auto herase.2).moves.trans
          (startInternal_moves (fun q => by simpa only [State.On, hheld.2] using hon q) hheld.1)
      · cases h; exact .refl s
  · cases h; exact .refl s

/-! ### Supply -/

theorem execPowerOn_moves (h : execPowerOn s = .next t) : Moves Q .supply s t := by
  unfold execPowerOn at h
  split at h
  · rename_i hoff
    split at h
    · rename_i hrst
      cases h
      exact (Move.waits hoff hrst).special
    · rename_i hrst
      cases h
      exact (Move.startUp (Bool.of_not_eq_true hrst)).special
  · cases h; exact .refl s

theorem execPowerLoss_moves (h : execPowerLoss s = .next t) : Moves Q .supply s t := by
  unfold execPowerLoss at h
  split at h
  · cases h; exact .refl s
  · cases h
    exact (Move.lose .off s.abandon.rst (.inl rfl)).special

theorem execRstAssert_moves (h : execRstAssert s = .next t) : Moves Q .supply s t := by
  unfold execRstAssert at h
  split at h
  · cases h
    exact (Move.rstFalls (.inl ‹_›)).special
  · cases h
    exact (Move.rstFalls (.inr ‹_›)).special
  · cases h
    exact (Move.lose .held true (.inr ⟨rfl, rfl⟩)).special

theorem execRstRelease_moves (h : execRstRelease s = .next t) : Moves Q .supply s t := by
  unfold execRstRelease at h
  dsimp only at h
  split at h
  · cases h
    exact Move.rstReleases.special
  · cases h
    exact (Move.rstRises ‹_›).special

theorem execSoftReset_moves (h : execSoftReset s = .next t) : Moves Q .supply s t := by
  unfold execSoftReset at h
  split at h
  · rename_i hrun
    cases h
    exact (Move.softReset hrun.1).special
  · cases h; exact .refl s

theorem execStartupEnd_moves (h : execStartupEnd s = .next t) : Moves Q k s t := by
  unfold execStartupEnd at h
  split at h
  · rename_i hp
    cases h
    have hruns : Moves Q k s { s.wait s.clock.startupLeft with power := .running } :=
      (Alike.moves (alike_wait ..)).move (.runs (s := s.wait s.clock.startupLeft) (by rw [State.wait_power, hp]))
    have hopened := hruns.alike (alike_mapLanesAt _ (f := fun l x => x.endStartup
      (({ s.wait s.clock.startupLeft with power := .running } : State).laneEnable.getLsbD l.val)) fun _ _ => rfl)
    exact (hopened.alike (alike_setPort _ .site _)).alike (alike_flagSite ..)
  · cases h; exact .refl s

end

/-! ### Every command -/

/-- The kind of the moves, beside the ordinary ones, that a command may make. -/
def moveKind : Instr → MoveKind
  | .powerOn | .powerLoss | .rstAssert | .rstRelease | .softReset => .supply
  | .setGeometryComplete _ => .geometry
  | .setCounterComplete _ => .counterSet
  | _ => .ordinary

/-- A port command whose meaning is the examination of its frame and then its rule. -/
theorem moves_of_command {Q : Prop} {k : MoveKind} {s t : State} {α : Type} {p : Port} {syncing : Bool}
    {payload : List Byte} {args : Option α} {rule : α → State → Reply}
    (h : Host.Outcome.next (φ := Fault) (ρ := Refusal) (s.command p syncing payload args rule) = .next t)
    (taken : ∀ a u, args = some a → u.power = .running → Moves Q k u (rule a u).1) : Moves Q k s t := by
  cases h
  exact State.command_moves p syncing payload args rule taken

theorem execFrameError_moves {Q : Prop} {k : MoveKind} {s t : State} {p : Port} {how : FrameFault}
    (h : execFrameError p how s = .next t) : Moves Q k s t := by
  unfold execFrameError at h
  split at h
  · cases h; exact (alike_answer ..).moves
  · cases h; exact ((alike_countError ..).trans (alike_answer ..)).moves

theorem execCheckFail_moves {Q : Prop} {k : MoveKind} {s t : State} {p : Port}
    (h : execCheckFail p s = .next t) : Moves Q k s t := by
  unfold execCheckFail at h
  split at h
  · cases h; exact (alike_answer ..).moves
  · cases h; exact ((alike_countError ..).trans (alike_answer ..)).moves

theorem execUnknownCommand_moves {Q : Prop} {k : MoveKind} {s t : State} {p : Port} {code : Byte}
    (h : execUnknownCommand p code s = .next t) : Moves Q k s t := by
  unfold execUnknownCommand at h
  split at h
  · cases h; exact (alike_answer ..).moves
  · cases h; exact ((alike_disarm ..).trans ((alike_countError ..).trans (alike_answer ..))).moves

/-- A completion of a settings write whose value no law reads. -/
theorem finishSettings_moves {Q : Prop} {k : MoveKind} {s : State} {c : SettingsCommand} {r : Settings} {left : Nat}
    {apply : State → State} {verified : Bool} (hq : Q → s.Quiet)
    (ha : s.engine.active = some { op := .settings c r, remaining := left })
    (happly : ∀ u, Alike u.endOp (apply u).endOp) :
    Moves Q k s ((s.wait s.untilComplete).finishSettings c r apply verified) :=
  (alike_wait ..).moves.trans
    (finishSettings_moves_of_alike apply verified (fun q => (hq q).wait_on ha) (State.wait_active ha) happly)

/-- Every command is a chain of moves. -/
theorem exec_moves {Q : Prop} {c : Instr} {s t : State} (hq : Q → s.Quiet) (h : exec c s = .next t) :
    Moves Q (moveKind c) s t := by
  cases c with
  | powerOn => exact execPowerOn_moves h
  | powerLoss => exact execPowerLoss_moves h
  | rstAssert => exact execRstAssert_moves h
  | rstRelease => exact execRstRelease_moves h
  | softReset => exact execSoftReset_moves h
  | startupEnd => exact execStartupEnd_moves h
  | wplChange high =>
    cases h
    exact Alike.moves rfl
  | frameError p how => exact execFrameError_moves h
  | checkFail p => exact execCheckFail_moves h
  | unknownCommand p code => exact execUnknownCommand_moves (code := code) h
  | sync p payload => exact moves_of_command h fun a u _ _ => syncRule_moves p a
  | status p payload => exact moves_of_command h fun a u _ _ => by cases p <;> exact .refl u
  | setEvents p payload => exact moves_of_command h fun a u _ _ => setEnables_moves p a
  | ackEvents p payload => exact moves_of_command h fun a u _ _ => clearFlags_moves p a
  | submit l payload => exact moves_of_command h fun a u _ _ => submitRule_moves l a
  | fetch l payload => exact moves_of_command h fun a u _ _ => fetchRule_moves l
  | jobLapse l place => exact execJobLapse_moves l place h
  | grant => exact execGrant_moves h
  | answerCompletion => exact execAnswerCompletion_moves h
  | verifyCompletion => exact execVerifyCompletion_moves h
  | sealCompletion => exact execSealCompletion_moves h
  | unwrapCompletion => exact execUnwrapCompletion_moves h
  | sessionExpiry l e => exact execSessionExpiry_moves l e h
  | permit payload => exact moves_of_command h fun a u _ _ => Alike.moves rfl
  | load payload => exact moves_of_command h fun a u _ hr => loadRule_moves a hr
  | eraseSlot payload => exact moves_of_command h fun a u _ hr => eraseSlotRule_moves a hr
  | eraseBank payload => exact moves_of_command h fun a u _ hr => eraseBankRule_moves a hr
  | retire payload => exact moves_of_command h fun a u _ _ => retireRule_moves a
  | slotInfo payload =>
    exact moves_of_command h fun a u _ _ => by
      split
      · exact .refl u
      · exact .refl u
  | suspend payload => exact moves_of_command h fun a u _ _ => suspendRule_moves
  | resume payload => exact moves_of_command h fun a u _ hr => resumeRule_moves hr
  | advance payload => exact moves_of_command h fun a u _ _ => advanceRule_moves
  | rotPulseEnd => cases h; exact (alike_wait ..).moves
  | cancelRotation payload => exact moves_of_command h fun a u _ _ => cancelRule_moves
  | rotationTimerExpiry => exact execRotationTimerExpiry_moves h
  | setRotation payload =>
    exact moves_of_command h fun a u _ hr => settingsRule_moves _ _ hr fun _ _ _ => rotationPlan_ok a
  | setWindow payload =>
    exact moves_of_command h fun a u _ hr => settingsRule_moves _ _ hr fun _ _ _ => windowPlan_ok a.1 a.2
  | setGeometry payload =>
    exact moves_of_command h fun a u _ hr => settingsRule_moves _ _ hr fun _ _ _ => geometryPlan_ok a.1 a.2.1 a.2.2
  | setCurrent payload => exact moves_of_command h fun a u _ hr => setCurrentRule_moves a hr
  | setCounter payload => exact moves_of_command h fun a u ha hr => setCounterRule_moves a (le_of_argLong ha) hr
  | setSessionLife payload =>
    exact moves_of_command h fun a u _ _ => by
      have hlife : Alike u { u with sessionLife := clampLife a.toNat } := rfl
      exact hlife.moves.trans ((Move.closes _).moves.alike (alike_loseSessions _ _))
  | setProtectVolatile payload => exact moves_of_command h fun a u _ hr => protectRule_moves a hr
  | setProtectNv payload => exact moves_of_command h fun a u _ hr => protectRule_moves a hr
  | lockArea payload => exact moves_of_command h fun a u _ hr => settingsRule_moves _ _ hr fun _ _ _ => lockPlan_ok a
  | setFreeze payload => exact moves_of_command h fun a u _ hr => settingsRule_moves _ _ hr fun _ _ _ => freezePlan_ok a
  | setSite payload => exact moves_of_command h fun a u _ hr => settingsRule_moves _ _ hr fun _ _ _ => sitePlan_ok a
  | setLanes payload => exact moves_of_command h fun a u _ hr => settingsRule_moves _ _ hr fun _ _ _ => lanesPlan_ok a
  | setPortMonitor payload =>
    exact moves_of_command h fun (modes, threshold, mask) u _ _ => by
      dsimp only
      cases monitorOf modes threshold mask with
      | some m => exact Alike.moves rfl
      | none => exact .refl u
  | readCounts payload =>
    exact moves_of_command h fun a u _ _ => by
      split
      · exact .refl u
      · exact .refl u
  | clearCounts payload =>
    exact moves_of_command h fun a u _ _ => by
      split
      · exact (alike_setPort ..).moves
      · exact .refl u
  | resetArm payload => exact moves_of_command h fun a u _ _ => Alike.moves rfl
  | reset payload =>
    exact moves_of_command h fun a u _ _ => by
      split
      · exact Alike.moves rfl
      · exact .refl u
  | programComplete verified => exact execProgramComplete_moves verified hq h
  | eraseComplete failed => exact execEraseComplete_moves failed hq h
  | setRotationComplete verified =>
    change execSetRotationComplete verified s = _ at h
    unfold execSetRotationComplete at h
    split at h
    · cases h; exact finishSettings_moves hq ‹_› fun _ => rfl
    · cases h; exact .refl s
  | setWindowComplete verified =>
    change execSetWindowComplete verified s = _ at h
    unfold execSetWindowComplete at h
    split at h
    · rename_i ha
      cases h
      exact (alike_wait ..).moves.trans
        (finishWindow_moves _ verified (fun q => (hq q).wait_on ha) (State.wait_active ha))
    · cases h; exact .refl s
  | setGeometryComplete verified => exact execSetGeometryComplete_moves verified hq h
  | setProtectNvComplete verified =>
    change execSetProtectNvComplete verified s = _ at h
    unfold execSetProtectNvComplete at h
    split at h
    · cases h; exact finishSettings_moves hq ‹_› (applyProtect_alike _ _)
    · cases h; exact .refl s
  | lockAreaComplete recordVerified cellVerified => exact execLockAreaComplete_moves recordVerified cellVerified hq h
  | setFreezeComplete verified =>
    change execSetFreezeComplete verified s = _ at h
    unfold execSetFreezeComplete at h
    split at h
    · cases h; exact finishSettings_moves hq ‹_› fun _ => rfl
    · cases h; exact .refl s
  | setSiteComplete verified =>
    change execSetSiteComplete verified s = _ at h
    unfold execSetSiteComplete at h
    split at h
    · cases h; exact finishSettings_moves hq ‹_› fun _ => rfl
    · cases h; exact .refl s
  | setLanesComplete verified =>
    change execSetLanesComplete verified s = _ at h
    unfold execSetLanesComplete at h
    split at h
    · rename_i ha
      cases h
      exact (alike_wait ..).moves.trans
        (finishLanes_moves _ verified (fun q => (hq q).wait_on ha) (State.wait_active ha))
    · cases h; exact .refl s
  | setCurrentComplete verified => exact execSetCurrentComplete_moves verified hq h
  | setCounterComplete verified => exact execSetCounterComplete_moves verified hq h
  | genRecordComplete verified => exact execGenRecordComplete_moves verified hq h
  | reservationComplete verified => exact execReservationComplete_moves verified hq h
  | retireMarkComplete verified => exact execRetireMarkComplete_moves verified hq h
  | internalWriteStart => exact execInternalWriteStart_moves h
  | arrayAtRest => cases h; exact (alike_wait ..).moves

/-- A law that every move keeps is kept by every command. -/
theorem exec_keeps {P : State → Prop} {Q : Prop} {c : Instr} {s t : State} (hq : Q → s.Quiet)
    (hP : ∀ k s t, k = .ordinary ∨ k = moveKind c → Move Q k s t → P s → P t) (hs : P s) (h : exec c s = .next t) : P t :=
  (exec_moves hq h).keeps hP hs

/-- A law that every move keeps, and that does not see which commands wait, is kept by every step. -/
theorem kept_of_moves {P : State → Prop} (Q : Prop) (hq : Q → ∀ s, P s → s.Quiet)
    (hwaiting : ∀ s pending, P s → P { s with pending := pending })
    (hP : ∀ k s t, Move Q k s t → P s → P t) : Kept P := by
  intro s t hs h
  unfold step at h
  split at h
  · cases h
    exact hP _ _ _ (.alike (alike_wait s 1)) hs
  · rename_i rest _
    have hs' := hwaiting s rest hs
    exact exec_keeps (fun q => hq q _ hs') (fun k u v _ => hP k u v) hs' h

end Sys2Proof.Machine

/-! PROOFS. The law of the lane queues (R70, R78, R83): the moves that touch a queue keep its bound and its head, and a job enters
the cipher engine only from a lane with room for its result. -/

namespace Sys2Proof.Machine

/-! ### What leaves the queues alone -/

/-- The queues of the lanes, and the work that a result may come from, are the same. -/
def SameQueues (s t : State) : Prop :=
  (∀ l, (t.lane l).jobs = (s.lane l).jobs ∧ (t.lane l).results = (s.lane l).results ∧
    (t.lane l).counterWait = (s.lane l).counterWait) ∧
  t.cipher.work.map Work.view = s.cipher.work.map Work.view

theorem Alike.sameQueues {s t : State} (h : Alike s t) : SameQueues s t :=
  ⟨fun l => ⟨h.jobs l, h.results l, h.counterWait l⟩, h.work⟩

theorem SameQueues.trans {s t u : State} (h : SameQueues s t) (h' : SameQueues t u) : SameQueues s u := by
  refine ⟨fun l => ?_, h'.2.trans h.2⟩
  obtain ⟨hj, hr, hc⟩ := h.1 l
  obtain ⟨hj', hr', hc'⟩ := h'.1 l
  exact ⟨hj'.trans hj, hr'.trans hr, hc'.trans hc⟩

@[simp] theorem Lane.loseSessions_jobs (x : Lane) (p : Session → Bool) : (x.loseSessions p).jobs = x.jobs :=
  (congrArg Lane.jobs (x.loseSessions_frame p) :)

@[simp] theorem Lane.loseSessions_results (x : Lane) (p : Session → Bool) : (x.loseSessions p).results = x.results :=
  (congrArg Lane.results (x.loseSessions_frame p) :)

@[simp] theorem Lane.loseSessions_counterWait (x : Lane) (p : Session → Bool) :
    (x.loseSessions p).counterWait = x.counterWait :=
  (congrArg Lane.counterWait (x.loseSessions_frame p) :)

theorem sameQueues_endOp (s : State) : SameQueues s s.endOp := ⟨fun _ => ⟨rfl, rfl, rfl⟩, rfl⟩

theorem sameQueues_startOp (s : State) (op : Operation) (time : Nat) : SameQueues s (s.startOp op time) :=
  ⟨fun _ => ⟨rfl, rfl, rfl⟩, rfl⟩

theorem sameQueues_purge (s : State) (gone : Gen → Bool) : SameQueues s (s.purge gone) := by
  simp [SameQueues]

theorem sameQueues_retireSlots (s : State) (p : SlotIx → Bool) : SameQueues s (s.retireSlots p) := by
  simp [SameQueues]

theorem sameQueues_alignmentCheck (s : State) : SameQueues s s.alignmentCheck := by
  unfold State.alignmentCheck
  split
  · exact sameQueues_retireSlots ..
  · exact (Alike.refl s).sameQueues

theorem sameQueues_beginErase (s : State) (op : SlotOp) : SameQueues s (s.beginErase op) := by
  unfold State.beginErase
  refine SameQueues.trans ?_ (alike_settleRetry _).sameQueues
  refine SameQueues.trans ?_ (sameQueues_purge ..)
  simp [SameQueues]

theorem sameQueues_advance (s : State) : SameQueues s s.advance := by
  unfold State.advance
  refine SameQueues.trans ?_ (alike_flagLanes _ _).sameQueues
  exact sameQueues_alignmentCheck { s with ring := { s.ring with c := s.ring.c + 1, h := (s.ring.h + 1) % s.store.geometry.ring } }

theorem sameQueues_applyWindow (r : Settings) (s : State) : SameQueues s (applyWindow r s) := by
  unfold applyWindow
  refine SameQueues.trans ?_ (alike_flagLanes _ _).sameQueues
  exact sameQueues_alignmentCheck { s with ring := { s.ring with back := r.back, ahead := r.ahead } }

theorem sameQueues_applyGeometry (c0 : Gen) (r : Settings) (s : State) : SameQueues s (applyGeometry c0 r s) := by
  unfold applyGeometry
  refine SameQueues.trans ?_ (alike_flagLanes _ _).sameQueues
  refine ⟨fun l => ?_, rfl⟩
  rw [State.lane_mapLanes, Lane.loseSessions_jobs, Lane.loseSessions_results, Lane.loseSessions_counterWait]
  exact ⟨rfl, rfl, rfl⟩

theorem sameQueues_applyCurrent (c : Gen) (h : Nat) (s : State) : SameQueues s (applyCurrent c h s) := by
  unfold applyCurrent
  refine SameQueues.trans ?_ (alike_flagLanes _ _).sameQueues
  exact sameQueues_alignmentCheck { s with ring := { s.ring with live := true, c := c, h := h } }

theorem QueueLaw.of_same {s t : State} (hs : QueueLaw s) (h : SameQueues s t) : QueueLaw t := by
  obtain ⟨hqueues, hwork⟩ := hs
  obtain ⟨hlanes, hview⟩ := h
  constructor
  · intro l
    obtain ⟨hj, hr, hc⟩ := hlanes l
    unfold Lane.QueuesOk
    rw [hj, hr, hc]
    exact hqueues l
  · intro w l hw hl hd
    obtain ⟨-, hr, hc⟩ := hlanes l
    rw [hr, hc]
    rw [hw] at hview
    obtain ⟨w', hw', hv⟩ := Option.map_eq_some_iff.mp hview.symm
    have hl' : w'.requester = .lane l := (congrArg WorkView.requester hv).trans hl
    have hd' : w'.detached = false := (congrArg WorkView.detached hv).trans hd
    exact hwork w' l hw' hl' hd'

/-! ### One lane written -/

theorem Lane.endHead_lengths (x : Lane) (code : Code) :
    (x.endHead code).jobs.length ≤ x.jobs.length ∧ (x.endHead code).results.length ≤ x.results.length + 1 := by
  unfold Lane.endHead
  split
  · rename_i j rest h
    simp [h]
  · simp

/-- What the arbiter asks of a lane (R72). -/
theorem State.GrantOf.room {s : State} {l : LaneIx} (h : s.GrantOf l) :
    s.cipher.work = none ∧ (s.lane l).results.length < 8 ∧ (s.lane l).counterWait = false := by
  obtain ⟨-, hfree, he⟩ := h
  simp only [Lane.eligible, Bool.and_eq_true, Bool.not_eq_true'] at he
  exact ⟨hfree, of_decide_eq_true he.1.2, he.2⟩

/-- A lane is written, and the work of the cipher engine stays or goes. -/
theorem QueueLaw.setLane {s : State} (hs : QueueLaw s) (l : LaneIx) {x : Lane} {work : Option Work}
    (hx : x.QueuesOk) (hwork : work = none ∨ work = s.cipher.work)
    (hroom : ∀ w, work = some w → w.requester = .lane l → w.detached = false →
      x.results.length < 8 ∧ x.counterWait = false) :
    QueueLaw { s.setLane l x with cipher := { s.cipher with work := work } } := by
  have hlane : ∀ m, State.lane { s.setLane l x with cipher := { s.cipher with work := work } } m =
      if l = m then x else s.lane m := fun m => s.lane_setLane l m x
  constructor
  · intro m
    rw [hlane]
    split
    · exact hx
    · exact hs.1 m
  · intro w m hw hm hd
    rw [hlane]
    split
    · subst l; exact hroom w hw hm hd
    · rcases hwork with h | h
      · subst h; cases hw
      · exact hs.2 w m (h ▸ hw) hm hd

theorem QueueLaw.setLane_of_free {s : State} (hs : QueueLaw s) (l : LaneIx) {x : Lane} (hfree : s.cipher.work = none)
    (hx : x.QueuesOk) : QueueLaw (s.setLane l x) := by
  refine hs.setLane l hx (.inr rfl) fun w hw => ?_
  rw [hfree] at hw
  cases hw

section
variable {s : State} (hs : QueueLaw s) (l : LaneIx)
include hs

theorem QueueLaw.submit (j : Job) (hroom : (s.lane l).jobs.length < 8) :
    QueueLaw (s.setLane l ((s.lane l).pushJob j)) := by
  obtain ⟨hjobs, hresults, hwait⟩ := hs.1 l
  refine hs.setLane l ⟨?_, hresults, fun h => ?_⟩ (.inr rfl) fun w hw hl hd => hs.2 w l hw hl hd
  · simp only [Lane.pushJob, List.length_append, List.length_singleton]; omega
  · obtain ⟨hlt, j', rest, k, hj', hk⟩ := hwait h
    exact ⟨hlt, j', rest ++ [j], k, by simp only [Lane.pushJob, hj', List.cons_append], hk⟩

theorem QueueLaw.fetch (r : Result) (rest : List Result) (hr : (s.lane l).results = r :: rest) :
    QueueLaw (s.setLane l { s.lane l with results := rest }) := by
  obtain ⟨hjobs, hresults, hwait⟩ := hs.1 l
  have hlen : rest.length < (s.lane l).results.length := by rw [hr]; simp
  refine hs.setLane l ⟨hjobs, by dsimp only; omega, fun h => ?_⟩ (.inr rfl) fun w hw hl hd => ?_
  · obtain ⟨hlt, hhead⟩ := hwait h
    exact ⟨by dsimp only; omega, hhead⟩
  · obtain ⟨hlt, hc⟩ := hs.2 w l hw hl hd
    exact ⟨by dsimp only; omega, hc⟩

theorem QueueLaw.lapse (place : Nat) : QueueLaw (s.setLane l ((s.lane l).lapse place)) := by
  obtain ⟨hjobs, hresults, hwait⟩ := hs.1 l
  unfold Lane.lapse
  split
  · rename_i h
    simp only [Bool.and_eq_true] at h
    obtain ⟨hlt, -⟩ := hwait h.1
    obtain ⟨hj, hr⟩ := (s.lane l).endHead_lengths .expired
    refine hs.setLane l ⟨by dsimp only; omega, by dsimp only; omega, fun h => by cases h⟩ (.inr rfl) fun w hw hl hd => ?_
    obtain ⟨-, hc⟩ := hs.2 w l hw hl hd
    rw [hc] at h
    cases h.1
  · refine hs.setLane l ⟨?_, hresults, fun h => ?_⟩ (.inr rfl) fun w hw hl hd => hs.2 w l hw hl hd
    · simpa using hjobs
    · obtain ⟨hlt, j, rest, k, hj, hk⟩ := hwait h
      refine ⟨hlt, ?_⟩
      dsimp only
      rw [hj]
      cases place with
      | zero => exact ⟨_, rest, k, rfl, hk⟩
      | succ n => exact ⟨j, _, k, rfl, hk⟩

theorem QueueLaw.endHead (code : Code) (hg : s.GrantOf l) : QueueLaw (s.endAtDispatch l code) := by
  obtain ⟨hjobs, hresults, hwait⟩ := hs.1 l
  obtain ⟨hfree, hroom, hc⟩ := hg.room
  obtain ⟨hj, hr⟩ := (s.lane l).endHead_lengths code
  refine hs.setLane_of_free l hfree ⟨by omega, by omega, fun h => ?_⟩
  unfold Lane.endHead at h
  split at h
  · dsimp only at h
    rw [hc] at h; cases h
  · rw [hc] at h; cases h

theorem QueueLaw.take (blocks : Nat) (task : Task) (hg : s.GrantOf l) :
    QueueLaw ((s.takeHead l).enter (.lane l) blocks task) := by
  obtain ⟨hjobs, hresults, hwait⟩ := hs.1 l
  obtain ⟨hfree, hroom, hc⟩ := hg.room
  have htaken : QueueLaw (s.takeHead l) :=
    hs.setLane_of_free l hfree ⟨by simp only [List.length_drop]; omega, hresults, fun h => by rw [hc] at h; cases h⟩
  refine ⟨htaken.1, ?_⟩
  intro w m hw hm hd
  cases hw
  cases hm
  have hlane : (s.takeHead l).lane l = { s.lane l with jobs := (s.lane l).jobs.drop 1 } := by
    simp [State.takeHead]
  exact ⟨Nat.lt_of_le_of_lt (Nat.le_of_eq (congrArg (·.results.length) hlane)) hroom, (congrArg Lane.counterWait hlane).trans hc⟩

theorem QueueLaw.enterWait (j : Job) (rest : List Job) (k : SealJob) (hg : s.GrantOf l)
    (hj : (s.lane l).jobs = j :: rest) (hk : j.body = .seal k) : QueueLaw (s.enterCounterWait l) := by
  obtain ⟨hjobs, hresults, hwait⟩ := hs.1 l
  obtain ⟨hfree, hroom, -⟩ := hg.room
  exact (hs.setLane_of_free l (x := { s.lane l with counterWait := true }) hfree ⟨hjobs, hresults, fun _ => ⟨hroom, j, rest, k, hj, hk⟩⟩).of_same
    (alike_flagSite _ .counter).sameQueues

theorem QueueLaw.endWork : QueueLaw s.endWork := ⟨hs.1, fun w _ hw => by cases hw⟩

theorem QueueLaw.deliver (w : Work) (r : Result) (hw : s.cipher.work = some w) (hl : w.requester = .lane l) :
    QueueLaw (s.deliver l w.detached r).endWork := by
  unfold State.deliver
  split
  · exact hs.endWork
  · rename_i hd
    obtain ⟨hroom, hc⟩ := hs.2 w l hw hl (Bool.of_not_eq_true hd)
    obtain ⟨hjobs, -, -⟩ := hs.1 l
    refine hs.setLane l (work := none) ⟨hjobs, ?_, fun h => ?_⟩ (.inl rfl) fun w hw => by cases hw
    · simp only [Lane.pushResult, List.length_append, List.length_singleton]; omega
    · rw [show ((s.lane l).pushResult r).counterWait = (s.lane l).counterWait from rfl, hc] at h
      cases h

omit l in
theorem QueueLaw.report : QueueLaw s.report := by
  constructor
  · intro l
    obtain ⟨hjobs, hresults, -⟩ := hs.1 l
    rw [State.lane_report]
    exact ⟨hjobs, hresults, fun h => by cases h⟩
  · intro w l hw hl hd
    rw [State.lane_report]
    exact ⟨(hs.2 w l hw hl hd).1, rfl⟩

omit l in
theorem QueueLaw.discards (p : LaneIx → Bool) : QueueLaw (s.discards p) := by
  have hlane : ∀ l, (s.discards p).lane l = if p l then (s.lane l).discard else s.lane l :=
    s.lane_mapLanesAt fun l x => if p l then x.discard else x
  constructor
  · intro l
    rw [hlane]
    split
    · exact ⟨Nat.zero_le _, Nat.zero_le _, fun h => by cases h⟩
    · exact hs.1 l
  · intro w l hw hl hd
    obtain ⟨w', hw', hv⟩ := Option.map_eq_some_iff.mp hw
    rw [hlane]
    have hreq : w'.requester = .lane l := by
      rw [← hl, ← hv]
      split
      · split <;> rfl
      · rfl
    rw [hreq] at hv
    dsimp only at hv
    split at hv
    · subst hv; cases hd
    · rename_i hp
      subst hv
      rw [if_neg hp]
      exact hs.2 _ l hw' hl hd

end

/-! ### Every move -/

theorem QueueLaw.startUp (s : State) (soft : Bool) : QueueLaw (s.startUp soft) := by
  have hlanes : ∀ l, ((s.startUp soft).lane l).jobs = [] ∧ ((s.startUp soft).lane l).results = [] ∧
      ((s.startUp soft).lane l).counterWait = false := by
    intro l
    unfold State.startUp
    extract_lets set ring counter slots base
    obtain ⟨hcheck, -⟩ := sameQueues_alignmentCheck base
    have hlow : ∀ u : State, u.examineLowWater.lane l = u.lane l := fun u => by rw [u.examineLowWater_frame]; rfl
    rw [hlow]
    obtain ⟨hj, hr, hc⟩ := hcheck l
    rw [hj, hr, hc]
    have hbase : base.lane l = Lane.initial := by simp [State.lane, base]
    rw [hbase]
    exact ⟨rfl, rfl, rfl⟩
  constructor
  · intro l
    obtain ⟨hj, hr, hc⟩ := hlanes l
    unfold Lane.QueuesOk
    rw [hj, hr, hc]
    exact ⟨Nat.zero_le _, Nat.zero_le _, fun h => by cases h⟩
  · intro w l hw
    rw [State.startUp_cipher] at hw
    cases hw

theorem QueueLaw.lost (s : State) (power : Power) (rst : Bool) :
    QueueLaw { s.unpowered with power := power, rst := rst } := by
  have hlane : ∀ l, State.lane { s.unpowered with power := power, rst := rst } l = Lane.initial := by
    intro l
    simp [State.lane, State.unpowered, State.reset]
  constructor
  · intro l
    rw [hlane]
    exact ⟨Nat.zero_le _, Nat.zero_le _, fun h => by cases h⟩
  · intro w l hw
    cases hw

theorem QueueLaw.move {Q : Prop} {k : MoveKind} {s t : State} (m : Move Q k s t) (hs : QueueLaw s) : QueueLaw t := by
  cases m with
  | alike h => exact hs.of_same h.sameQueues
  | submit l j h => exact hs.submit l j h
  | fetch l r rest h => exact hs.fetch l r rest h
  | lapse l place => exact hs.lapse l place
  | discards p => exact hs.discards p
  | endHead l code hg => exact hs.endHead l code hg
  | take l blocks task hg _ => exact hs.take l blocks task hg
  | enterWait l j rest q hg hj hq => exact hs.enterWait l j rest q hg hj hq
  | deliver w l r hw hl => exact hs.deliver l w r hw hl
  | leaveWait => exact hs.report
  | unwrap blocks load kx hw _ => exact ⟨hs.1, fun w l hw' hl => by cases hw'; cases hl⟩
  | dropLoad | dropUnwrap => exact hs.endWork
  | program w load kx key hw _ => exact hs.endWork.of_same ⟨fun l => by simp [State.beginProgram], by simp [State.beginProgram]⟩
  | closes p => exact hs.of_same ⟨fun l => by simp [State.closes], rfl⟩
  | verified l e v h => exact hs.of_same ⟨fun m => by rw [State.lane_setLane]; split <;> simp_all [Lane.setSession], rfl⟩
  | opens l e serial v i h h' => exact hs.of_same ⟨fun m => by unfold State.opens; rw [State.lane_setLane]; split <;> simp_all, rfl⟩
  | counterSet base limit h => exact hs.of_same (by unfold applyCounter; split <;> exact ⟨fun _ => ⟨rfl, rfl, rfl⟩, rfl⟩)
  | lockSet a r h => exact hs.of_same (by cases a <;> exact ⟨fun _ => ⟨rfl, rfl, rfl⟩, rfl⟩)
  | programStale i h => exact hs.of_same ((sameQueues_retireSlots ..).trans (sameQueues_endOp _))
  | retire i h h' => exact hs.of_same (sameQueues_retireSlots ..)
  | erase op time h h' h'' => exact hs.of_same ((sameQueues_beginErase ..).trans (sameQueues_startOp ..))
  | advance h => exact hs.of_same (sameQueues_advance s)
  | windowSet r h => exact hs.of_same ((sameQueues_applyWindow r (s.putSettings (.good r))).trans (sameQueues_endOp _))
  | geometrySet c0 r h => exact hs.of_same ((sameQueues_applyGeometry c0 r (s.putSettings (.good r))).trans (sameQueues_endOp _))
  | currentSet i c hd h => exact hs.of_same ((sameQueues_applyCurrent c hd s).trans (sameQueues_endOp _))
  | hold who h =>
    refine hs.of_same (State.holdActive_cases s who (SameQueues s) ?_ ?_)
    · exact fun _ _ _ => ⟨fun _ => ⟨rfl, rfl, rfl⟩, rfl⟩
    · exact fun _ => (Alike.refl s).sameQueues
  | startUp | softReset | rstReleases => exact QueueLaw.startUp ..
  | lose => exact QueueLaw.lost ..
  | programFailed | programLoaded | erased | dropMarks => exact hs.of_same ⟨fun l => by simp [State.dropMarks], by simp [State.dropMarks]⟩
  | _ => exact hs.of_same ⟨fun _ => ⟨rfl, rfl, rfl⟩, rfl⟩

/-- Settles O4: every move keeps the law of the queues. -/
theorem queueLawKept : Obligations.QueueLawKept :=
  kept_of_moves False False.elim (fun _ _ hs => ⟨hs.1, hs.2⟩) fun _ _ _ m hs => hs.move m

end Sys2Proof.Machine

/-! PROOFS. The law of the write engine and its slots (R3, R13, R133, R144, R148), over the little that it reads: the states of the
slots, the active and the held operation, and the work of the cipher engine. -/

namespace Sys2Proof.Machine

/-! ### The law over what it reads -/

/-- The operation is under way: active or held. -/
def UnderWay (active : Option Operation) (held : Option HeldOp) (op : SlotOp) : Prop :=
  active = some (.slotOp op) ∨ ∃ x, held = some x ∧ x.op = op

/-- The law of the write engine over the states of the slots, the active operation, the held one and the task of the cipher
engine. -/
structure EngineRule (slots : SlotIx → SlotState) (active : Option Operation) (held : Option HeldOp) (task : Option Task) :
    Prop where
  beside : ∀ o x, active = some o → held = some x → x.beside o
  programs : ∀ i, UnderWay active held (.program i) → slots i = .programming
  programming : ∀ i, slots i = .programming → UnderWay active held (.program i)
  erasing : ∀ i, slots i = .erasing → ∃ op, UnderWay active held op ∧ op.isProgram = false ∧ op.targets i = true
  loads : ∀ l, active = some (.load l) → slots l.slot = .blank
  unwraps : ∀ l kx, task = some (.unwrap l kx) → active = some (.load l)

/-- The slots' states with that of one slot replaced. -/
def withState (slots : SlotIx → SlotState) (i : SlotIx) (st : SlotState) : SlotIx → SlotState :=
  fun j => if j = i then st else slots j

theorem withState_apply (slots : SlotIx → SlotState) (i : SlotIx) (st : SlotState) (j : SlotIx) :
    withState slots i st j = if j = i then st else slots j := rfl

theorem withState_self (slots : SlotIx → SlotState) (i : SlotIx) (st : SlotState) : withState slots i st i = st := if_pos rfl

theorem withState_of_ne {i j : SlotIx} (h : j ≠ i) (slots : SlotIx → SlotState) (st : SlotState) :
    withState slots i st j = slots j := if_neg h

def State.slotStates (s : State) (i : SlotIx) : SlotState := (s.slot i).state

/-- What the law of the engine reads of a state satisfies it. -/
def State.Rule (s : State) : Prop :=
  EngineRule s.slotStates (s.engine.active.map (·.op)) s.engine.held (s.cipher.work.map (·.task))

/-- Without power and in reset both engines are empty. -/
def State.Silent (s : State) : Prop :=
  s.On ∨ s.engine.active = none ∧ s.engine.held = none ∧ s.cipher.work = none

theorem State.inProgress_iff (s : State) (op : SlotOp) :
    s.inProgress op ↔ UnderWay (s.engine.active.map (·.op)) s.engine.held op := by
  unfold State.inProgress UnderWay
  constructor
  · rintro (⟨left, h⟩ | ⟨left, who, h⟩)
    · exact .inl (by rw [h]; rfl)
    · exact .inr ⟨_, h, rfl⟩
  · rintro (h | ⟨⟨op', left, who⟩, h, rfl⟩)
    · obtain ⟨⟨op', left⟩, ha, rfl⟩ := Option.map_eq_some_iff.mp h
      exact .inl ⟨left, ha⟩
    · exact .inr ⟨left, who, h⟩

theorem engineLaw_iff (s : State) : EngineLaw s ↔ s.Rule ∧ s.Silent := by
  constructor
  · intro hs
    refine ⟨⟨?_, ?_, ?_, ?_, ?_, ?_⟩, ?_⟩
    · intro o x ho hx
      obtain ⟨a, ha, rfl⟩ := Option.map_eq_some_iff.mp ho
      exact hs.beside a x ha hx
    · exact fun i h => hs.programs i ((s.inProgress_iff _).mpr h)
    · exact fun i h => (s.inProgress_iff _).mp (hs.programming i h)
    · intro i h
      obtain ⟨op, hop, hk, ht⟩ := hs.erasing i h
      exact ⟨op, (s.inProgress_iff _).mp hop, hk, ht⟩
    · intro l hl
      obtain ⟨a, ha, hop⟩ := Option.map_eq_some_iff.mp hl
      exact hs.loads a l ha hop
    · intro l kx h
      obtain ⟨w, hw, ht⟩ := Option.map_eq_some_iff.mp h
      exact hs.unwraps w l kx hw ht
    · by_cases h : s.On
      · exact .inl h
      · exact .inr (hs.silent (Decidable.or_iff_not_not_and_not.mpr h))
  · rintro ⟨hr, hsilent⟩
    refine ⟨?_, ?_, ?_, ?_, ?_, ?_, ?_⟩
    · exact fun a x ha hx => hr.beside a.op x (by rw [ha]; rfl) hx
    · exact fun i h => hr.programs i ((s.inProgress_iff _).mp h)
    · exact fun i h => (s.inProgress_iff _).mpr (hr.programming i h)
    · intro i h
      obtain ⟨op, hop, hk, ht⟩ := hr.erasing i h
      exact ⟨op, (s.inProgress_iff _).mpr hop, hk, ht⟩
    · exact fun a l ha hl => hr.loads l (by rw [ha, ← hl]; rfl)
    · exact fun w l kx hw ht => hr.unwraps l kx (by rw [hw, ← ht]; rfl)
    · rintro h
      rcases hsilent with hon | h'
      · exact (h.elim hon.1 hon.2).elim
      · exact h'

/-! ### What can happen to the engine -/

section
variable {slots slots' : SlotIx → SlotState} {active : Option Operation} {held : Option HeldOp} {task task' : Option Task}
variable (h : EngineRule slots active held task)
include h

/-- The cipher engine takes work that is no unwrap, or none. -/
theorem EngineRule.setTask (ht : ∀ l kx, task' ≠ some (.unwrap l kx)) : EngineRule slots active held task' :=
  { h with unwraps := fun l kx hl => absurd hl (ht l kx) }

/-- Slots change, but none enters or leaves BLANK, PROGRAMMING or ERASING. -/
theorem EngineRule.setSlots (hs : ∀ i st, st = .blank ∨ st = .programming ∨ st = .erasing → (slots' i = st ↔ slots i = st)) :
    EngineRule slots' active held task where
  beside := h.beside
  programs i hi := (hs i _ (.inr (.inl rfl))).mpr (h.programs i hi)
  programming i hi := h.programming i ((hs i _ (.inr (.inl rfl))).mp hi)
  erasing i hi := h.erasing i ((hs i _ (.inr (.inr rfl))).mp hi)
  loads l hl := (hs _ _ (.inl rfl)).mpr (h.loads l hl)
  unwraps := h.unwraps

/-- An operation that is neither a LOAD nor a program or erase begins. -/
theorem EngineRule.starts {o : Operation} (ha : active = none) (hb : ∀ x, held = some x → x.beside o)
    (hop : ∀ op, o ≠ .slotOp op) (hl : ∀ l, o ≠ .load l) : EngineRule slots (some o) held task := by
  subst ha
  have hway : ∀ op, UnderWay (some o) held op ↔ UnderWay none held op := by
    intro op
    unfold UnderWay
    simp [hop]
  refine ⟨?_, ?_, ?_, ?_, ?_, ?_⟩
  · intro o' x ho hx
    cases ho
    exact hb x hx
  · exact fun i hi => h.programs i ((hway _).mp hi)
  · exact fun i hi => (hway _).mpr (h.programming i hi)
  · intro i hi
    obtain ⟨op, hu, hk, ht⟩ := h.erasing i hi
    exact ⟨op, (hway _).mpr hu, hk, ht⟩
  · exact fun l hl' => absurd (Option.some.inj hl') (hl l)
  · intro l kx ht
    cases h.unwraps l kx ht

/-- An operation that is no program or erase ends; of a LOAD the unwrap must be over. -/
theorem EngineRule.ends {o : Operation} (ha : active = some o) (hop : ∀ op, o ≠ .slotOp op)
    (ht : ∀ l kx, o = .load l → task ≠ some (.unwrap l kx)) : EngineRule slots none held task := by
  subst ha
  have hway : ∀ op, UnderWay none held op ↔ UnderWay (some o) held op := by
    intro op
    unfold UnderWay
    simp [hop]
  refine ⟨by simp, fun i hi => h.programs i ((hway _).mp hi), fun i hi => (hway _).mpr (h.programming i hi), ?_, by simp, ?_⟩
  · intro i hi
    obtain ⟨op, hu, hk, ht⟩ := h.erasing i hi
    exact ⟨op, (hway _).mpr hu, hk, ht⟩
  · intro l kx hl
    have := h.unwraps l kx hl
    exact absurd hl (ht l kx (Option.some.inj this))

/-- A LOAD is accepted for a BLANK slot that nothing held targets (R127, R133). -/
theorem EngineRule.load (l : Load) (ha : active = none) (hb : ∀ x, held = some x → x.op.isProgram = false ∧
    x.op.targets l.slot = false) (hs : slots l.slot = .blank) : EngineRule slots (some (.load l)) held task := by
  subst ha
  have hway : ∀ op, UnderWay (some (.load l)) held op ↔ UnderWay none held op := by
    intro op
    unfold UnderWay
    simp
  refine ⟨?_, fun i hi => h.programs i ((hway _).mp hi), fun i hi => (hway _).mpr (h.programming i hi), ?_, ?_, ?_⟩
  · intro o x ho hx
    cases ho
    exact hb x hx
  · intro i hi
    obtain ⟨op, hu, hk, ht⟩ := h.erasing i hi
    exact ⟨op, (hway _).mpr hu, hk, ht⟩
  · intro l' hl
    cases hl
    exact hs
  · intro l' kx ht
    cases h.unwraps l' kx ht

/-- The program of a LOAD begins (R8). -/
theorem EngineRule.program {l : Load} (ha : active = some (.load l)) :
    EngineRule (withState slots l.slot .programming) (some (.slotOp (.program l.slot))) held none := by
  subst ha
  have hheld : ∀ x, held = some x → x.op.isProgram = false ∧ x.op.targets l.slot = false := fun x hx => h.beside _ x rfl hx
  refine ⟨?_, ?_, ?_, ?_, by simp, by simp⟩
  · intro o x ho hx
    cases ho
    exact hheld x hx
  · rintro i (hi | ⟨x, hx, hop⟩)
    · cases hi
      exact withState_self ..
    · simpa [hop, SlotOp.isProgram] using (hheld x hx).1
  · intro i hi
    by_cases hslot : i = l.slot
    · exact .inl (by rw [hslot])
    · rw [withState_of_ne hslot] at hi
      rcases h.programming i hi with hp | ⟨x, hx, hop⟩
      · cases hp
      · simpa [hop, SlotOp.isProgram] using (hheld x hx).1
  · intro i hi
    by_cases hslot : i = l.slot
    · rw [hslot, withState_self] at hi
      cases hi
    · rw [withState_of_ne hslot] at hi
      obtain ⟨op, hu | hu, hk, ht⟩ := h.erasing i hi
      · cases hu
      · exact ⟨op, .inr hu, hk, ht⟩

/-- A program ends, and its slot leaves PROGRAMMING (R9). -/
theorem EngineRule.programEnds {i : SlotIx} {st : SlotState} (ha : active = some (.slotOp (.program i)))
    (h1 : st ≠ .programming) (h2 : st ≠ .erasing) : EngineRule (withState slots i st) none held task := by
  subst ha
  have hheld : ∀ x, held = some x → x.op.isProgram = false := fun x hx => (h.beside _ x rfl hx).1
  refine ⟨by simp, ?_, ?_, ?_, by simp, ?_⟩
  · rintro j (hj | ⟨x, hx, hop⟩)
    · cases hj
    · simpa [hop, SlotOp.isProgram] using hheld x hx
  · intro j hj
    by_cases hij : j = i
    · rw [hij, withState_self] at hj
      exact absurd hj h1
    · rw [withState_of_ne hij] at hj
      rcases h.programming j hj with hp | hp
      · cases hp; exact absurd rfl hij
      · exact .inr hp
  · intro j hj
    by_cases hij : j = i
    · rw [hij, withState_self] at hj
      exact absurd hj h2
    · rw [withState_of_ne hij] at hj
      obtain ⟨op, hu | hu, hk, ht⟩ := h.erasing j hj
      · cases hu
        cases hk
      · exact ⟨op, .inr hu, hk, ht⟩
  · intro l kx ht
    cases h.unwraps l kx ht

/-- An erase begins: targets enter ERASING, and no other slot changes (R11). -/
theorem EngineRule.erase {op : SlotOp} (ha : active = none) (hh : held = none) (hop : op.isProgram = false)
    (hs : ∀ i, slots' i = slots i ∨ op.targets i = true ∧ slots' i = .erasing) :
    EngineRule slots' (some (.slotOp op)) held task := by
  subst ha hh
  have hnone : ∀ op', ¬UnderWay none none op' := by
    rintro op' (h | ⟨x, h, -⟩) <;> cases h
  refine ⟨by simp, ?_, ?_, ?_, by simp, ?_⟩
  · rintro i (hi | ⟨x, hx, -⟩)
    · cases hi
      cases hop
    · cases hx
  · intro i hi
    rcases hs i with he | ⟨-, he⟩
    · exact absurd (h.programming i (he ▸ hi)) (hnone _)
    · rw [he] at hi; cases hi
  · intro i hi
    rcases hs i with he | ⟨ht, -⟩
    · obtain ⟨op', hu, -⟩ := h.erasing i (he ▸ hi)
      exact absurd hu (hnone _)
    · exact ⟨op, .inl rfl, hop, ht⟩
  · intro l kx ht
    cases h.unwraps l kx ht

/-- An erase ends: its ERASING targets become BLANK or DAMAGED, and no other slot changes (R12). -/
theorem EngineRule.eraseEnds {op : SlotOp} (ha : active = some (.slotOp op)) (hop : op.isProgram = false)
    (hs : ∀ i, if op.targets i = true ∧ slots i = .erasing then slots' i = .blank ∨ slots' i = .damaged
      else slots' i = slots i) : EngineRule slots' none held task := by
  subst ha
  have hheld : held = none := by
    rcases hh : held with _ | x
    · rfl
    · have := h.beside _ x rfl hh
      cases op with
      | program i => cases hop
      | eraseSlot i => exact this.elim
      | eraseBank b => exact this.elim
  subst hheld
  refine ⟨by simp, ?_, ?_, ?_, by simp, ?_⟩
  · rintro i (hi | ⟨x, hx, -⟩)
    · cases hi
    · cases hx
  · intro i hi
    have hi' := hs i
    split at hi'
    · rcases hi' with hi' | hi' <;> rw [hi'] at hi <;> cases hi
    · rcases h.programming i (hi' ▸ hi) with hp | ⟨x, hx, -⟩
      · cases hp; cases hop
      · cases hx
  · intro i hi
    have hi' := hs i
    split at hi'
    · rcases hi' with hi' | hi' <;> rw [hi'] at hi <;> cases hi
    · rename_i hn
      rw [hi'] at hi
      obtain ⟨op', hu | ⟨x, hx, -⟩, -, ht⟩ := h.erasing i hi
      · cases hu
        exact absurd ⟨ht, hi⟩ hn
      · cases hx
  · intro l kx ht
    cases h.unwraps l kx ht

/-- The active program or erase becomes held (R146). -/
theorem EngineRule.hold {op : SlotOp} {left : Nat} {who : HeldBy} (ha : active = some (.slotOp op)) (hh : held = none) :
    EngineRule slots none (some { op := op, remaining := left, by_ := who }) task := by
  subst ha hh
  have hway : ∀ op', UnderWay none (some { op := op, remaining := left, by_ := who }) op' ↔
      UnderWay (some (.slotOp op)) none op' := by
    intro op'
    unfold UnderWay
    simp
  refine ⟨by simp, fun i hi => h.programs i ((hway _).mp hi), fun i hi => (hway _).mpr (h.programming i hi), ?_, by simp, ?_⟩
  · intro i hi
    obtain ⟨op', hu, hk, ht⟩ := h.erasing i hi
    exact ⟨op', (hway _).mpr hu, hk, ht⟩
  · intro l kx ht
    cases h.unwraps l kx ht

/-- Another one holds what is held (R155). -/
theorem EngineRule.rehold {x : HeldOp} (who : HeldBy) (hh : held = some x) :
    EngineRule slots active (some { x with by_ := who }) task := by
  subst hh
  have hway : ∀ op, UnderWay active (some { x with by_ := who }) op ↔ UnderWay active (some x) op := by
    intro op
    unfold UnderWay
    simp
  refine ⟨?_, fun i hi => h.programs i ((hway _).mp hi), fun i hi => (hway _).mpr (h.programming i hi), ?_, h.loads, h.unwraps⟩
  · intro o y ho hy
    cases hy
    have := h.beside o x ho rfl
    cases o with
    | slotOp op => cases op <;> exact this
    | _ => exact this
  · intro i hi
    obtain ⟨op', hu, hk, ht⟩ := h.erasing i hi
    exact ⟨op', (hway _).mpr hu, hk, ht⟩

/-- The held operation becomes active again (R153, R156). -/
theorem EngineRule.resume {x : HeldOp} (ha : active = none) (hh : held = some x) :
    EngineRule slots (some (.slotOp x.op)) none task := by
  subst ha hh
  have hway : ∀ op, UnderWay (some (.slotOp x.op)) none op ↔ UnderWay none (some x) op := by
    intro op
    unfold UnderWay
    simp
  refine ⟨by simp, fun i hi => h.programs i ((hway _).mp hi), fun i hi => (hway _).mpr (h.programming i hi), ?_, by simp, ?_⟩
  · intro i hi
    obtain ⟨op', hu, hk, ht⟩ := h.erasing i hi
    exact ⟨op', (hway _).mpr hu, hk, ht⟩
  · intro l kx ht
    cases h.unwraps l kx ht

end

/-! ### The law as it is kept -/

/-- A state that the engine's law does not tell from another. -/
theorem EngineLaw.of_same {s t : State} (hs : EngineLaw s) (hslots : ∀ i, (t.slot i).state = (s.slot i).state)
    (ha : t.engine.active.map (·.op) = s.engine.active.map (·.op)) (hh : t.engine.held = s.engine.held)
    (hw : t.cipher.work.map (·.task) = s.cipher.work.map (·.task)) (hp : t.power = s.power) : EngineLaw t := by
  rw [engineLaw_iff] at hs ⊢
  unfold State.Rule State.Silent State.On at *
  have hstates : t.slotStates = s.slotStates := funext hslots
  have hnone : t.engine.active = none ↔ s.engine.active = none := by
    rw [← Option.map_eq_none_iff (f := (·.op)), ha, Option.map_eq_none_iff]
  have hfree : t.cipher.work = none ↔ s.cipher.work = none := by
    rw [← Option.map_eq_none_iff (f := (·.task)), hw, Option.map_eq_none_iff]
  rw [hstates, ha, hh, hw, hp, hnone, hfree]
  exact hs

theorem Alike.engineLaw {s t : State} (h : Alike s t) (hs : EngineLaw s) : EngineLaw t := by
  refine hs.of_same (fun i => by rw [h.slot]) h.active h.held ?_ h.power
  have hw := congrArg (Option.map WorkView.task) h.work
  rw [Option.map_map, Option.map_map] at hw
  exact hw

theorem EngineLaw.rule {s : State} (hs : EngineLaw s) : s.Rule := ((engineLaw_iff s).mp hs).1

theorem EngineLaw.isSilent {s : State} (hs : EngineLaw s) : s.Silent := ((engineLaw_iff s).mp hs).2

/-- A part whose write engine is active has power. -/
theorem EngineLaw.on_of_active {s : State} {o : Operation} (hs : EngineLaw s) (ha : s.engine.active.map (·.op) = some o) :
    s.On := by
  rcases hs.isSilent with h | ⟨h, -⟩
  · exact h
  · rw [h] at ha; cases ha

theorem EngineLaw.on_of_held {s : State} {x : HeldOp} (hs : EngineLaw s) (hh : s.engine.held = some x) : s.On := by
  rcases hs.isSilent with h | ⟨-, h, -⟩
  · exact h
  · rw [h] at hh; cases hh

theorem EngineLaw.quiet {s : State} (hs : EngineLaw s) : s.Quiet := fun h => (hs.silent h).1

/-- The law of a part with power, from what the law reads. -/
theorem EngineRule.law {t : State} {slots : SlotIx → SlotState} {active : Option Operation} {held : Option HeldOp}
    {task : Option Task} (h : EngineRule slots active held task) (hon : t.On) (hs : ∀ i, (t.slot i).state = slots i)
    (ha : t.engine.active.map (·.op) = active) (hh : t.engine.held = held) (hw : t.cipher.work.map (·.task) = task) :
    EngineLaw t := by
  rw [engineLaw_iff]
  have hstates : t.slotStates = slots := funext hs
  subst ha hh hw
  refine ⟨?_, .inl hon⟩
  unfold State.Rule
  rw [hstates]
  exact h

/-- The law of a part whose engines are empty: no slot is PROGRAMMING or ERASING. -/
theorem engineLaw_of_empty {t : State} (ha : t.engine.active = none) (hh : t.engine.held = none)
    (hw : t.cipher.work = none) (hs : ∀ i, (t.slot i).state ≠ .programming ∧ (t.slot i).state ≠ .erasing) :
    EngineLaw t := by
  rw [engineLaw_iff]
  refine ⟨⟨by simp [ha], ?_, fun i hi => absurd hi (hs i).1, fun i hi => absurd hi (hs i).2, by simp [ha], by simp [hw]⟩,
    .inr ⟨ha, hh, hw⟩⟩
  rintro i (h | ⟨x, h, -⟩)
  · simp [ha] at h
  · simp [hh] at h

/-! ### Retirement and the alignment check -/

/-- Only LOADED slots change, and they are retired. -/
def Retires (s t : State) : Prop :=
  ∀ i, t.slot i = s.slot i ∨ (s.slot i).state = .loaded ∧ t.slot i = (s.slot i).retire

theorem retires_alignmentCheck (s : State) : Retires s s.alignmentCheck := by
  intro i
  rw [State.alignmentCheck_slot]
  split
  · rename_i h
    have hloaded : (s.slot i).state = .loaded := by
      have := h.2
      simp only [State.misaligned, Bool.and_eq_true, beq_iff_eq] at this
      exact this.1.2
    exact .inr ⟨hloaded, rfl⟩
  · exact .inl rfl

theorem Retires.states {s t : State} (h : Retires s t) (i : SlotIx) (st : SlotState)
    (hst : st = .blank ∨ st = .programming ∨ st = .erasing) : t.slotStates i = st ↔ s.slotStates i = st := by
  unfold State.slotStates
  rcases h i with he | ⟨hl, he⟩
  · rw [he]
  · rw [he, hl]
    rcases hst with rfl | rfl | rfl <;> simp [Slot.retire]

/-- The part with C and h one on, before its alignment check (R31). -/
def State.stepped (s : State) : State :=
  { s with ring := { s.ring with c := s.ring.c + 1, h := (s.ring.h + 1) % s.store.geometry.ring } }

/-- The part with other window bounds, before its alignment check (R40). -/
def State.bounded (back ahead : Nat) (s : State) : State :=
  { s with ring := { s.ring with back := back, ahead := ahead } }

/-- The part with a LIVE ring at C and h, before its alignment check (R44). -/
def State.placed (c : Gen) (h : Nat) (s : State) : State := { s with ring := { s.ring with live := true, c := c, h := h } }

/-- The part with a ring of another geometry (R42). -/
def State.rebuilt (c0 : Gen) (r : Settings) (s : State) : State :=
  { s with store := { s.store with geometry := r.geometry },
           ring := { s.ring with live := true, c := c0, h := 0, back := min s.ring.back (r.geometry.ring - 2) }
           cache := [] }

theorem alike_advance (s : State) : Alike s.stepped.alignmentCheck s.advance :=
  Alike.trans (t := State.flagSite .rotated _) rfl (alike_flagLanes _ .rotated)

theorem alike_applyWindow (r : Settings) (s : State) :
    Alike (s.bounded r.back r.ahead).alignmentCheck.trimCache (applyWindow r s) := alike_flagLanes _ .ringChanged

theorem alike_applyCurrent (c : Gen) (h : Nat) (s : State) : Alike (s.placed c h).alignmentCheck (applyCurrent c h s) :=
  Alike.trans (t := { (s.placed c h).alignmentCheck with ring := (s.placed c h).alignmentCheck.ring.reload }) rfl
    (alike_flagLanes _ .ringChanged)

theorem alike_applyGeometry (c0 : Gen) (r : Settings) (s : State) :
    Alike ((s.rebuilt c0 r).closes fun _ _ _ => true) (applyGeometry c0 r s) := by
  refine Alike.trans (t := (State.mapLanes (fun x => x.loseSessions fun _ => true) (s.rebuilt c0 r))) (alike_loseSessions ..) ?_
  exact Alike.trans (t := State.mapLanes _ _) rfl (alike_flagLanes _ .ringChanged)

theorem EngineLaw.retires {s t : State} (hs : EngineLaw s) (h : Retires s t) (ha : t.engine.active = s.engine.active)
    (hh : t.engine.held = s.engine.held) (hw : t.cipher.work = s.cipher.work) (hp : t.power = s.power) : EngineLaw t := by
  rw [engineLaw_iff] at hs ⊢
  obtain ⟨hrule, hsilent⟩ := hs
  refine ⟨?_, ?_⟩
  · unfold State.Rule
    rw [ha, hh, hw]
    exact hrule.setSlots h.states
  · unfold State.Silent State.On at *
    rw [ha, hh, hw, hp]
    exact hsilent

theorem EngineLaw.alignmentCheck {s : State} (hs : EngineLaw s) : EngineLaw s.alignmentCheck := by
  have hframe := s.alignmentCheck_frame
  exact hs.retires (retires_alignmentCheck s) (by rw [hframe]) (by rw [hframe]) (by rw [hframe]) (by rw [hframe])

theorem EngineLaw.retireSlots {s : State} (hs : EngineLaw s) (p : SlotIx → Bool)
    (hp : ∀ i, p i = true → (s.slot i).state = .loaded) : EngineLaw (s.retireSlots p) := by
  have hframe := s.retireSlots_frame p
  refine hs.retires (fun i => ?_) (by rw [hframe]) (by rw [hframe]) (by rw [hframe]) (by rw [hframe])
  rw [State.slot_retireSlots]
  split
  · exact .inr ⟨hp i ‹_›, rfl⟩
  · exact .inl rfl

/-- The end of an operation that is no program or erase. -/
theorem EngineLaw.endOp {s : State} (hs : EngineLaw s) {o : Operation} (ha : s.engine.active.map (·.op) = some o)
    (hop : ∀ op, o ≠ .slotOp op) (hl : ∀ l, o ≠ .load l) : EngineLaw s.endOp :=
  (hs.rule.ends ha hop fun l _ h => absurd h (hl l)).law (hs.on_of_active ha) (fun _ => rfl) rfl rfl rfl

/-- The start of an operation that is no LOAD, program or erase. -/
theorem EngineLaw.startOp {s : State} (hs : EngineLaw s) (hon : s.On) {o : Operation} {time : Nat}
    (ha : s.engine.active = none) (hb : ∀ x, s.engine.held = some x → x.beside o) (hop : ∀ op, o ≠ .slotOp op)
    (hl : ∀ l, o ≠ .load l) : EngineLaw (s.startOp o time) :=
  (hs.rule.starts (by rw [ha]; rfl) hb hop hl).law hon (fun _ => rfl) rfl rfl rfl

/-! ### Start-up -/

/-- A start-up slot is what its record gives, retired where the alignment check finds it out of place (R20, R28). -/
theorem State.startUp_slot (s : State) (soft : Bool) (i : SlotIx) :
    (s.startUp soft).slot i =
        (s.nvSlot i).classify (s.array.settings.settingsTaken.geometry.area i) ∨
      ((s.nvSlot i).classify (s.array.settings.settingsTaken.geometry.area i)).state = .loaded ∧
      (s.startUp soft).slot i = ((s.nvSlot i).classify (s.array.settings.settingsTaken.geometry.area i)).retire := by
  unfold State.startUp
  extract_lets set ring counter slots base
  have hlow : ∀ u : State, u.examineLowWater.slot i = u.slot i := fun u => by rw [u.examineLowWater_frame]; rfl
  have hbase : base.slot i = (s.nvSlot i).classify (s.array.settings.settingsTaken.geometry.area i) := by
    simp [State.slot, base, slots, set, State.nvSlot]
  rw [hlow, ← hbase]
  exact retires_alignmentCheck base i

theorem NvSlot.classify_state (x : NvSlot) (a : Area) :
    (x.classify a).state = .blank ∨ (x.classify a).state = .loaded ∨ (x.classify a).state = .retired ∨
      (x.classify a).state = .damaged := by
  unfold NvSlot.classify NvSlot.keep
  split
  · exact .inl rfl
  · split
    · split
      · exact .inr (.inl rfl)
      · exact .inr (.inr (.inr rfl))
    · split
      · exact .inr (.inr (.inl rfl))
      · exact .inr (.inr (.inr rfl))
    · exact .inr (.inr (.inr rfl))

theorem State.startUp_engine (s : State) (soft : Bool) :
    (s.startUp soft).engine.active = none ∧ (s.startUp soft).engine.held = none := by
  unfold State.startUp
  extract_lets set ring counter slots base
  have hlow : ∀ u : State, u.examineLowWater.engine.active = u.engine.active ∧
      u.examineLowWater.engine.held = u.engine.held := by
    intro u
    unfold State.examineLowWater
    split <;> exact ⟨rfl, rfl⟩
  obtain ⟨ha, hh⟩ := hlow base.alignmentCheck
  rw [ha, hh, State.alignmentCheck_engine]
  exact ⟨rfl, rfl⟩

theorem EngineLaw.startUp (s : State) (soft : Bool) : EngineLaw (s.startUp soft) := by
  obtain ⟨ha, hh⟩ := s.startUp_engine soft
  refine engineLaw_of_empty ha hh (by rw [State.startUp_cipher]) fun i => ?_
  have hstate : ∀ x : Slot, x.state = .blank ∨ x.state = .loaded ∨ x.state = .retired ∨ x.state = .damaged →
      x.state ≠ .programming ∧ x.state ≠ .erasing := by
    rintro x (h | h | h | h) <;> rw [h] <;> decide
  rcases s.startUp_slot soft i with h | ⟨-, h⟩
  · rw [h]
    exact hstate _ (NvSlot.classify_state ..)
  · rw [h]
    exact hstate _ (.inr (.inr (.inl rfl)))

theorem State.unpowered_slot (s : State) (i : SlotIx) : s.unpowered.slot i = Slot.empty := by
  simp [State.slot, State.unpowered, State.reset]

theorem EngineLaw.lost (s : State) (power : Power) (rst : Bool) :
    EngineLaw { s.unpowered with power := power, rst := rst } := by
  refine engineLaw_of_empty rfl rfl rfl fun i => ?_
  have hslot : State.slot { s.unpowered with power := power, rst := rst } i = Slot.empty := s.unpowered_slot i
  rw [hslot]
  decide

/-! ### Every move -/

theorem EngineLaw.move {k : MoveKind} {s t : State} (m : Move True k s t) (hs : EngineLaw s) : EngineLaw t := by
  cases m with
  | alike h => exact h.engineLaw hs
  | discards p =>
    refine hs.of_same (fun _ => rfl) rfl rfl ?_ rfl
    simp only [State.discards, Option.map_map]
    refine Option.map_congr fun w _ => ?_
    simp only [Function.comp]
    split
    · split <;> rfl
    · rfl
  | take l blocks task hg ht =>
    refine (hs.rule.setTask (task' := some task) fun l kx h => ht l kx (Option.some.inj h)).law hg.1
      (fun _ => rfl) rfl rfl rfl
  | deliver w l r hw hl =>
    rcases hs.isSilent with hon | ⟨-, -, hn⟩
    · have hframe : s.deliver l w.detached r = s ∨ ∃ x, s.deliver l w.detached r = s.setLane l x := by
        unfold State.deliver
        split
        · exact .inl rfl
        · exact .inr ⟨_, rfl⟩
      rcases hframe with h | ⟨x, h⟩ <;> rw [h] <;>
        exact (hs.rule.setTask (task' := none) fun l kx h => by cases h).law hon (fun _ => rfl) rfl rfl rfl
    · rw [hn] at hw; cases hw
  | unwrap blocks load kx hw ha =>
    exact ({ hs.rule with unwraps := fun l kx' h => by cases h; exact ha } : EngineRule _ _ _ (some (.unwrap load kx))).law
      (hs.on_of_active ha) (fun _ => rfl) rfl rfl rfl
  | dropLoad load ha =>
    have hr := (hs.rule.setTask (task' := none) fun l kx h => by cases h).ends ha (by simp) (by simp)
    exact hr.law (hs.on_of_active ha) (fun _ => rfl) rfl rfl rfl
  | dropUnwrap w load kx hw ht =>
    have ha := hs.rule.unwraps load kx (by rw [hw, ← ht]; rfl)
    have hr := (hs.rule.setTask (task' := none) fun l kx h => by cases h).ends ha (by simp) (by simp)
    exact hr.law (hs.on_of_active ha) (fun _ => rfl) rfl rfl rfl
  | program w load kx key hw ht =>
    have ha := hs.rule.unwraps load kx (by rw [hw, ← ht]; rfl)
    refine (hs.rule.program ha).law (by simpa [State.beginProgram, State.On, State.endWork] using hs.on_of_active ha) ?_ rfl
      (by simp [State.beginProgram, State.endWork]) (by simp [State.beginProgram, State.endWork])
    intro i
    simp only [State.beginProgram, State.slot_startOp, State.slot_setNvSlot, State.slot_setSlot]
    split
    · rename_i h
      rw [← h, withState_self]
    · rename_i h
      rw [withState_of_ne (Ne.symm h)]
      rfl
  | load l hon ha hb hs' _ _ => exact (hs.rule.load l (by rw [ha]; rfl) hb hs').law hon (fun _ => rfl) rfl rfl rfl
  | programFailed i ha =>
    refine (hs.rule.programEnds (st := .damaged) ha (by decide) (by decide)).law
      (by simpa [State.On] using hs.on_of_active ha) (fun j => ?_) rfl (by simp) (by simp)
    rw [State.slot_endOp, State.slot_setSlot, withState_apply]
    by_cases hij : i = j
    · subst hij; simp [Slot.cleared]
    · simp [hij, Ne.symm hij, State.slotStates]
  | programLoaded i ha _ =>
    refine (hs.rule.programEnds (st := .loaded) ha (by decide) (by decide)).law
      (by simpa [State.On] using hs.on_of_active ha) (fun j => ?_) rfl (by simp) (by simp)
    rw [State.slot_endOp, State.slot_setSlot, withState_apply]
    by_cases hij : i = j
    · subst hij; simp
    · simp [hij, Ne.symm hij, State.slotStates]
  | programStale i ha =>
    have hframe := s.retireSlots_frame (· == i)
    refine (hs.rule.programEnds (st := .retired) ha (by decide) (by decide)).law
      (by simpa [State.On] using hs.on_of_active ha) (fun j => ?_) rfl (by simp) (by simp)
    rw [State.slot_endOp, State.slot_retireSlots, withState_apply]
    by_cases hij : j = i <;> simp [hij, Slot.retire, State.slotStates]
  | erase op time hf hop hl =>
    obtain ⟨hon, ha, hh⟩ := hf
    have hslot : ∀ i, ((s.beginErase op).startOp (.slotOp op) time).slot i =
        if s.erasable op i then Slot.cleared .erasing else s.slot i := by
      intro i
      simp only [State.slot_startOp, State.beginErase, (alike_settleRetry _).slot, State.slot_purge,
        State.slot_mapNvSlots, State.slot_mapSlots]
    have hframe : (s.beginErase op).engine.held = s.engine.held ∧ (s.beginErase op).cipher = s.cipher ∧
        (s.beginErase op).power = s.power := by
      unfold State.beginErase State.settleRetry
      dsimp only
      split <;> simp
    obtain ⟨hheld, hcipher, hpower⟩ := hframe
    refine (hs.rule.erase (slots' := fun i => (((s.beginErase op).startOp (.slotOp op) time).slot i).state)
      (by rw [ha]; rfl) hh hop fun i => ?_).law (by simpa [State.On, hpower] using hon) (fun _ => rfl) rfl
        (by simp [hheld]) (by simp [hcipher])
    rw [hslot]
    split
    · rename_i he
      simp only [State.erasable, Bool.and_eq_true] at he
      exact .inr ⟨he.1, rfl⟩
    · exact .inl rfl
  | erased op failed ha hop =>
    refine (hs.rule.eraseEnds (slots' := fun i => (State.slot (s.mapSlots _).endOp i).state) ha hop fun i => ?_).law
      (by simpa [State.On] using hs.on_of_active ha) (fun _ => rfl) rfl (by simp) (by simp)
    rw [State.slot_endOp, State.slot_mapSlots]
    simp only [State.beingErased, Bool.and_eq_true, beq_iff_eq, State.slotStates]
    split
    · split
      · exact .inr rfl
      · exact .inl rfl
    · rfl
  | retire i hl _ => exact hs.retireSlots _ fun j hj => by rw [beq_iff_eq] at hj; rw [hj, hl]
  | dropMarks taken =>
    refine hs.of_same (fun i => ?_) (by simp [State.dropMarks]) (by simp [State.dropMarks]) (by simp [State.dropMarks])
      (by simp [State.dropMarks])
    simp only [State.dropMarks, State.slot_mapSlots]
    split <;> rfl
  | hold who hh =>
    refine State.holdActive_cases s who EngineLaw (fun op left ha => ?_) fun _ => hs
    have ha' : s.engine.active.map (·.op) = some (.slotOp op) := by rw [ha]; rfl
    exact (hs.rule.hold ha' hh).law (hs.on_of_active ha') (fun _ => rfl) rfl rfl rfl
  | rehold x who hh => exact (hs.rule.rehold who hh).law (hs.on_of_held hh) (fun _ => rfl) rfl rfl rfl
  | resume x hon ha hh => exact (hs.rule.resume (by rw [ha]; rfl) hh).law (hon trivial) (fun _ => rfl) rfl rfl rfl
  | advance _ =>
    have hstep : EngineLaw s.stepped := hs.of_same (fun _ => rfl) rfl rfl rfl rfl
    exact (alike_advance s).engineLaw hstep.alignmentCheck
  | reservation r time hon ha _ =>
    exact (hs.startOp (time := time) (o := .reservation r.limit r.retry) (hon trivial) ha (fun _ _ => trivial) (by simp)
      (by simp)).of_same (fun _ => rfl) rfl rfl rfl rfl
  | genRecord c h retry time hon ha => exact hs.startOp (hon trivial) ha (fun _ _ => trivial) (by simp) (by simp)
  | retireMarks taken retry time hon ha => exact hs.startOp (hon trivial) ha (fun _ _ => trivial) (by simp) (by simp)
  | recordEnds op ha hrec =>
    rcases hrec with ⟨c, h, retry, rfl⟩ | ⟨taken, retry, rfl⟩ | ⟨i, c, h, rfl⟩ <;> exact hs.endOp ha (by simp) (by simp)
  | settings c r time hf _ _ _ =>
    exact hs.startOp hf.1 hf.2.1 (fun x hx => by rw [hf.2.2] at hx; cases hx) (by simp) (by simp)
  | setCurrent i g time hf _ _ =>
    exact hs.startOp hf.1 hf.2.1 (fun x hx => by rw [hf.2.2] at hx; cases hx) (by simp) (by simp)
  | setCounter base limit time hf _ _ _ _ =>
    exact (hs.startOp (time := time) (o := .setCounter base limit) hf.1 hf.2.1
      (fun x hx => by rw [hf.2.2] at hx; cases hx) (by simp) (by simp)).of_same (fun _ => rfl) rfl rfl rfl rfl
  | settingsEnd c r kept ha _ => exact (hs.endOp ha (by simp) (by simp)).of_same (fun _ => rfl) rfl rfl rfl rfl
  | lockSet a r ha => cases a <;> exact (hs.endOp ha (by simp) (by simp)).of_same (fun _ => rfl) rfl rfl rfl rfl
  | reserved limit retry ha => exact (hs.endOp ha (by simp) (by simp)).of_same (fun _ => rfl) rfl rfl rfl rfl
  | reserveAgain limit ha => exact (hs.endOp ha (by simp) (by simp)).of_same (fun _ => rfl) rfl rfl rfl rfl
  | reserveGivenUp limit ha => exact (hs.endOp ha (by simp) (by simp)).of_same (fun _ => rfl) rfl rfl rfl rfl
  | counterKept base limit ha => exact (hs.endOp ha (by simp) (by simp)).of_same (fun _ => rfl) rfl rfl rfl rfl
  | counterSet base limit ha =>
    refine (hs.endOp ha (by simp) (by simp)).of_same (fun i => ?_) ?_ ?_ ?_ ?_ <;>
      (unfold applyCounter; split <;> rfl)
  | windowSet r ha =>
    have hset : EngineLaw ((s.putSettings (.good r)).bounded r.back r.ahead) := hs.of_same (fun _ => rfl) rfl rfl rfl rfl
    have hwin : EngineLaw (applyWindow r (s.putSettings (.good r))) := (alike_applyWindow ..).engineLaw
      (hset.alignmentCheck.of_same (fun _ => rfl) rfl rfl rfl rfl)
    refine hwin.endOp (o := .settings .window r) ?_ (by simp) (by simp)
    rw [(alike_applyWindow ..).active, ← ha]
    exact congrArg (fun e : WriteEngine => e.active.map (·.op)) (State.alignmentCheck_engine _)
  | geometrySet c0 r ha =>
    have hgeo : EngineLaw (applyGeometry c0 r (s.putSettings (.good r))) := (alike_applyGeometry ..).engineLaw
      (hs.of_same (fun _ => rfl) rfl rfl rfl rfl)
    exact hgeo.endOp (o := .settings (.geometry c0) r) ((alike_applyGeometry ..).active.trans ha) (by simp) (by simp)
  | currentSet i c h ha =>
    have hset : EngineLaw (s.placed c h) := hs.of_same (fun _ => rfl) rfl rfl rfl rfl
    have hcur : EngineLaw (applyCurrent c h s) := (alike_applyCurrent c h s).engineLaw hset.alignmentCheck
    refine hcur.endOp (o := .setCurrent i c h) ?_ (by simp) (by simp)
    rw [(alike_applyCurrent ..).active, ← ha]
    exact congrArg (fun e : WriteEngine => e.active.map (·.op)) (State.alignmentCheck_engine _)
  | startUp | softReset | rstReleases => exact EngineLaw.startUp ..
  | lose => exact EngineLaw.lost ..
  | waits hoff hrst => exact { hs with silent := fun _ => hs.silent (.inl hoff) }
  | runs hstart => exact { hs with silent := fun h => by rcases h with h | h <;> cases h }
  | _ => exact hs.of_same (fun _ => rfl) rfl rfl rfl rfl

end Sys2Proof.Machine

/-! PROOFS. The law of the slot records (R3, R14), the law of the locked slots (R16) and that a locked slot stands still, from one
lemma on what a move can make of a slot. -/

namespace Sys2Proof.Machine

/-! ### What a move makes of a slot -/

/-- R16 lets the slot change, or the program, the erase or the LOAD that changes it is already under way. -/
def State.Movable (s : State) (i : SlotIx) : Prop :=
  s.lockedSlot i = false ∨ (s.slot i).state = .programming ∨ (s.slot i).state = .erasing ∨
    ∃ l, s.engine.active.map (·.op) = some (.load l) ∧ l.slot = i

/-- All that a move other than a start-up, a reset or a loss of power can make of a slot. -/
inductive SlotChange (s : State) (i : SlotIx) : Slot → Prop where
  /-- nothing -/
  | same : SlotChange s i (s.slot i)
  /-- it leaves the retire-mark set -/
  | unmark : SlotChange s i { s.slot i with markPending := false }
  | retire : s.Movable i → (s.slot i).state = .loaded ∨ (s.slot i).state = .programming → SlotChange s i (s.slot i).retire
  /-- the program ends, of a ring slot that the ring's generations place there (R9, R29) -/
  | load : (s.slot i).state = .programming → (s.inRing i = true → s.ring.live = true ∧ s.aligned i = true) →
      SlotChange s i { s.slot i with state := .loaded }
  /-- an erase begins or ends, or a program fails -/
  | clear (st : SlotState) : s.Movable i → st.holdsKey = false → (s.slot i).state ≠ .blank →
      (st = .erasing → s.lockedSlot i = false) → SlotChange s i (Slot.cleared st)
  | program (l : Load) (key : Block) : s.engine.active.map (·.op) = some (.load l) → l.slot = i →
      (s.slot i).state = .blank →
      SlotChange s i { state := .programming, fields := some l.fields, key := key, markPending := false }

theorem State.lockedSlot_of_inRing {s : State} {i : SlotIx} (h : s.inRing i = true) : s.lockedSlot i = false := by
  have ha : s.areaOf i = .ring := by simpa [State.inRing] using h
  simp [State.lockedSlot, ha, Area.fixed]

theorem State.misaligned_inRing {s : State} {i : SlotIx} (h : s.misaligned i = true) :
    s.inRing i = true ∧ (s.slot i).state = .loaded ∧ s.aligned i = false := by
  simpa [State.misaligned, and_assoc] using h

/-- The alignment check of a state with the same slots. -/
theorem slotChange_alignmentCheck {s u : State} (hu : u.store = s.store) (i : SlotIx) :
    SlotChange s i (u.alignmentCheck.slot i) := by
  have hslot : u.slot i = s.slot i := by simp only [State.slot, hu]
  have hring : u.inRing i = s.inRing i := by simp only [State.inRing, State.areaOf, hu]
  rw [State.alignmentCheck_slot]
  split
  · rename_i h
    obtain ⟨hr, hl, -⟩ := State.misaligned_inRing h.2
    rw [hslot]
    exact .retire (.inl (State.lockedSlot_of_inRing (hring ▸ hr))) (.inl (hslot ▸ hl))
  · rw [hslot]
    exact .same

theorem State.slot_beginErase (s : State) (op : SlotOp) (i : SlotIx) :
    (s.beginErase op).slot i = if s.erasable op i then Slot.cleared .erasing else s.slot i := by
  simp only [State.beginErase, (alike_settleRetry _).slot, State.slot_purge, State.slot_mapNvSlots, State.slot_mapSlots]

theorem State.slot_beginProgram (s : State) (l : Load) (key : Block) (i : SlotIx) : (s.beginProgram l key).slot i =
    if l.slot = i then { state := .programming, fields := some l.fields, key := key, markPending := false }
    else s.slot i := by
  simp only [State.beginProgram, State.slot_startOp, State.slot_setNvSlot, State.slot_setSlot]

theorem State.slot_trimCache (s : State) (i : SlotIx) : s.trimCache.slot i = s.slot i := rfl

theorem Move.slotChange {Q : Prop} {k : MoveKind} {s t : State} (m : Move Q k s t) (hk : k ≠ .supply) (hs : EngineLaw s)
    (i : SlotIx) : SlotChange s i (t.slot i) := by
  cases m with
  | alike h => rw [h.slot]; exact .same
  | program w load kx key hw ht =>
    have ha := hs.rule.unwraps load kx (by rw [hw, ← ht]; rfl)
    rw [State.slot_beginProgram]
    split
    · rename_i hi
      exact .program load key ha hi (hi ▸ hs.rule.loads load ha)
    · exact .same
  | programFailed j ha =>
    have hp : (s.slot j).state = .programming := hs.rule.programs j (.inl ha)
    rw [State.slot_endOp, State.slot_setSlot]
    split
    · subst j
      exact .clear .damaged (.inr (.inl hp)) rfl (by rw [hp]; decide) fun h => SlotState.noConfusion h
    · exact .same
  | programLoaded j ha hin =>
    have hp : (s.slot j).state = .programming := hs.rule.programs j (.inl ha)
    rw [State.slot_endOp, State.slot_setSlot]
    split
    · subst j
      exact .load hp hin
    · exact .same
  | programStale j ha =>
    have hp : (s.slot j).state = .programming := hs.rule.programs j (.inl ha)
    rw [State.slot_endOp, State.slot_retireSlots]
    split
    · rename_i hj
      rw [beq_iff_eq] at hj
      subst j
      exact .retire (.inr (.inl hp)) (.inr hp)
    · exact .same
  | erase op time _ _ hl =>
    rw [State.slot_startOp, State.slot_beginErase]
    split
    · rename_i he
      simp only [State.erasable, Bool.and_eq_true, bne_iff_ne] at he
      exact .clear .erasing (.inl (hl i he.1)) rfl he.2 fun _ => hl i he.1
    · exact .same
  | erased op failed ha _ =>
    rw [State.slot_endOp, State.slot_mapSlots]
    split
    · rename_i he
      have hst : (s.slot i).state = .erasing := by
        simp only [State.beingErased, Bool.and_eq_true, beq_iff_eq] at he
        exact he.2
      have hclear : ∀ st : SlotState, st.holdsKey = false → st ≠ .erasing → SlotChange s i (Slot.cleared st) :=
        fun st h hne => .clear st (.inr (.inr (.inl hst))) h (by rw [hst]; decide) fun h => absurd h hne
      split
      · exact hclear .damaged rfl (by decide)
      · exact hclear .blank rfl (by decide)
    · exact .same
  | retire j hl hlock =>
    rw [State.slot_retireSlots]
    split
    · rename_i hj
      rw [beq_iff_eq] at hj
      subst j
      exact .retire (.inl hlock) (.inl hl)
    · exact .same
  | dropMarks taken =>
    simp only [State.dropMarks, State.slot_mapSlots]
    split
    · exact .unmark
    · exact .same
  | advance _ =>
    rw [(alike_advance s).slot]
    exact slotChange_alignmentCheck (s := s) (u := s.stepped) rfl i
  | windowSet r ha =>
    rw [State.slot_endOp, (alike_applyWindow ..).slot, State.slot_trimCache]
    exact slotChange_alignmentCheck (s := s) (u := (s.putSettings (.good r)).bounded r.back r.ahead) rfl i
  | currentSet j c h ha =>
    rw [State.slot_endOp, (alike_applyCurrent ..).slot]
    exact slotChange_alignmentCheck (s := s) (u := s.placed c h) rfl i
  | geometrySet c0 r ha =>
    rw [State.slot_endOp, (alike_applyGeometry ..).slot, State.closes, State.slot_mapLanesAt]
    exact .same
  | lockSet a r ha =>
    have hslot : (applyLock a (s.putSettings (.good r))).endOp.slot i = s.slot i := by cases a <;> rfl
    rw [hslot]
    exact .same
  | counterSet base limit ha =>
    unfold applyCounter
    split <;> exact .same
  | deliver w l r _ _ =>
    unfold State.deliver
    split <;> exact .same
  | hold who hh => exact State.holdActive_cases s who (fun t => SlotChange s i (t.slot i)) (fun _ _ _ => .same) fun _ => .same
  | startUp | softReset | lose | rstFalls | rstRises | rstReleases | waits => exact absurd rfl hk
  | _ => exact .same

/-! ### Slot records -/

theorem Slot.ok_cleared {st : SlotState} (h : st.holdsKey = false) : (Slot.cleared st).Ok :=
  ⟨h.symm, fun _ => rfl, fun h => Bool.noConfusion h⟩

theorem Slot.Ok.retire {x : Slot} (h : x.Ok) (hx : x.state = .loaded ∨ x.state = .programming) : x.retire.Ok := by
  have hkey : x.state.holdsKey = true := by rcases hx with hx | hx <;> rw [hx] <;> rfl
  exact ⟨h.1.trans hkey, fun h => Bool.noConfusion h, fun _ => rfl⟩

theorem SlotChange.ok {s : State} {i : SlotIx} {x : Slot} (h : SlotChange s i x) (hs : (s.slot i).Ok) : x.Ok := by
  cases h with
  | same => exact hs
  | unmark => exact ⟨hs.1, hs.2.1, fun h => Bool.noConfusion h⟩
  | retire _ hl => exact hs.retire hl
  | load hp _ =>
    obtain ⟨hfields, -, hmark⟩ := hs
    rw [hp] at hfields hmark
    exact ⟨hfields, fun h => Bool.noConfusion h, fun h => SlotState.noConfusion (hmark h)⟩
  | clear st _ hst _ _ => exact Slot.ok_cleared hst
  | program l key _ _ _ => exact ⟨rfl, fun h => Bool.noConfusion h, fun h => Bool.noConfusion h⟩

theorem NvSlot.classify_ok (x : NvSlot) (a : Area) : (x.classify a).Ok := by
  have hkeep : ∀ f st, st.holdsKey = true → (x.keep a f st).Ok := by
    intro f st hst
    unfold NvSlot.keep
    split
    · exact ⟨hst.symm, fun h => Bool.noConfusion (hst.symm.trans h), fun h => Bool.noConfusion h⟩
    · exact Slot.ok_cleared rfl
  unfold NvSlot.classify
  split
  · exact Slot.ok_cleared rfl
  · split
    · exact hkeep _ _ rfl
    · exact hkeep _ _ rfl
    · exact Slot.ok_cleared rfl

/-- A state that holds no key at all: power is lost, or the slots are those of a start-up. -/
theorem SlotLaw.startUp (s : State) (soft : Bool) : SlotLaw (s.startUp soft) := by
  refine ⟨.startUp s soft, fun i => ?_⟩
  rcases s.startUp_slot soft i with h | ⟨hl, h⟩
  · rw [h]; exact NvSlot.classify_ok ..
  · rw [h]; exact (NvSlot.classify_ok ..).retire (.inl hl)

theorem SlotLaw.lost (s : State) (power : Power) (rst : Bool) : SlotLaw { s.unpowered with power := power, rst := rst } :=
  ⟨.lost s power rst, fun i => (congrArg Slot.Ok (s.unpowered_slot i)).mpr (Slot.ok_cleared rfl)⟩

theorem SlotLaw.move {k : MoveKind} {s t : State} (m : Move True k s t) (hs : SlotLaw s) : SlotLaw t := by
  by_cases hk : k = .supply
  · subst hk
    cases m with
    | startUp | softReset | rstReleases => exact SlotLaw.startUp ..
    | lose => exact SlotLaw.lost ..
    | rstFalls hp => exact ⟨hs.1.move (.rstFalls hp), hs.2⟩
    | rstRises hp => exact ⟨hs.1.move (.rstRises hp), hs.2⟩
    | waits hp hr => exact ⟨hs.1.move (.waits hp hr), hs.2⟩
  · exact ⟨hs.1.move m, fun i => (m.slotChange hk hs.1 i).ok (hs.2 i)⟩

theorem EngineLaw.of_waiting {s : State} (hs : EngineLaw s) (pending : List Instr) : EngineLaw { s with pending := pending } :=
  hs.of_same (fun _ => rfl) rfl rfl rfl rfl

/-- Settles O6: every move keeps the law of the slot records. -/
theorem slotLawKept : Obligations.SlotLawKept :=
  kept_of_moves True (fun _ _ hs => hs.1.quiet) (fun _ pending hs => ⟨hs.1.of_waiting pending, hs.2⟩) fun _ _ _ m hs =>
    hs.move m

/-! ### Locked slots -/

theorem LockLaw.not_movable {s : State} {i : SlotIx} (hs : LockLaw s) (hl : s.lockedSlot i = true) : ¬s.Movable i := by
  obtain ⟨-, hslots, hloads⟩ := hs
  rintro (h | h | h | ⟨l, ha, rfl⟩)
  · rw [hl] at h; cases h
  · exact (hslots i hl).1 h
  · exact (hslots i hl).2 h
  · obtain ⟨a, ha, hop⟩ := Option.map_eq_some_iff.mp ha
    rw [hloads a l ha hop] at hl; cases hl

/-- Under the law of the locked slots a move leaves the state, the fields and the key of a locked slot. -/
theorem SlotChange.still {s : State} {i : SlotIx} {x : Slot} (h : SlotChange s i x) (hs : LockLaw s)
    (hl : s.lockedSlot i = true) : x.state = (s.slot i).state ∧ x.fields = (s.slot i).fields ∧ x.key = (s.slot i).key := by
  have hstill := hs.not_movable hl
  cases h with
  | same => exact ⟨rfl, rfl, rfl⟩
  | unmark => exact ⟨rfl, rfl, rfl⟩
  | retire hm _ => exact absurd hm hstill
  | load hp _ => exact absurd (.inr (.inl hp)) hstill
  | clear st hm _ _ _ => exact absurd hm hstill
  | program l key ha hi _ => exact absurd (.inr (.inr (.inr ⟨l, ha, hi⟩))) hstill

/-- A move keeps the geometry and the locks. -/
def SameLocks (s t : State) : Prop :=
  t.store.geometry = s.store.geometry ∧ ∀ a, (t.protection.area a).lock = (s.protection.area a).lock

theorem SameLocks.lockedSlot {s t : State} (h : SameLocks s t) (i : SlotIx) : t.lockedSlot i = s.lockedSlot i := by
  simp only [State.lockedSlot, State.areaOf, h.1, h.2]

theorem Alike.sameLocks {s t : State} (h : Alike s t) : SameLocks s t := ⟨by rw [h.store], h.lock⟩

theorem SameLocks.trans {s t u : State} (h : SameLocks s t) (h' : SameLocks t u) : SameLocks s u :=
  ⟨h'.1.trans h.1, fun a => (h'.2 a).trans (h.2 a)⟩

theorem sameLocks_alignmentCheck (s : State) : SameLocks s s.alignmentCheck := by
  have hgeometry : s.alignmentCheck.store.geometry = s.store.geometry := by
    unfold State.alignmentCheck
    split
    · exact geometry_retireSlots ..
    · rfl
  exact ⟨hgeometry, fun a => by rw [s.alignmentCheck_frame]⟩

theorem sameLocks_endOp (s : State) : SameLocks s s.endOp := ⟨rfl, fun _ => rfl⟩

theorem sameLocks_startOp (s : State) (op : Operation) (time : Nat) : SameLocks s (s.startOp op time) := ⟨rfl, fun _ => rfl⟩

theorem sameLocks_beginErase (s : State) (op : SlotOp) : SameLocks s (s.beginErase op) := by
  unfold State.beginErase
  refine SameLocks.trans ?_ (alike_settleRetry _).sameLocks
  exact ⟨by simp [geometry_mapSlots], fun a => by simp⟩

/-- Of the moves of a running part only SET_GEOMETRY and LOCK_AREA change which slots are locked; they come at the end of their
settings write and touch no slot. -/
theorem Move.locks {Q : Prop} {k : MoveKind} {s t : State} (m : Move Q k s t) (hk : k ≠ .supply) :
    SameLocks s t ∨ ∃ c r, s.engine.active.map (·.op) = some (.settings c r) ∧ t.engine.active = none ∧
      (∀ i, t.slot i = s.slot i) ∧ (k ≠ .geometry → ∀ i, s.lockedSlot i = true → t.lockedSlot i = true) := by
  cases m with
  | alike h => exact .inl h.sameLocks
  | lockSet a r ha =>
    refine .inr ⟨_, _, ha, rfl, fun i => by cases a <;> rfl, fun _ i hl => ?_⟩
    have hgeo : (applyLock a (s.putSettings (.good r))).endOp.areaOf i = s.areaOf i := by cases a <;> rfl
    have hlock : ∀ b, (s.protection.area b).lock = true →
        ((applyLock a (s.putSettings (.good r))).endOp.protection.area b).lock = true := by
      intro b hb
      match a, b, hb with
      | .head, .head, _ | .tail, .tail, _ => rfl
      | .head, .tail, hb | .tail, .head, hb => exact hb
    unfold State.lockedSlot at hl ⊢
    rw [hgeo]
    split
    · rename_i b hb
      rw [hb] at hl
      exact hlock b hl
    · rename_i hb
      rw [hb] at hl
      exact hl
  | geometrySet c0 r ha =>
    refine .inr ⟨_, _, ha, rfl, fun i => ?_, fun h => absurd rfl h⟩
    rw [State.slot_endOp, (alike_applyGeometry ..).slot, State.closes, State.slot_mapLanesAt]
    rfl
  | program w load kx key hw ht => exact .inl ⟨by simp [State.beginProgram, State.endWork], fun a => by simp [State.beginProgram, State.endWork]⟩
  | programFailed | programLoaded | erased => exact .inl ⟨by simp [geometry_mapSlots], fun a => by simp⟩
  | programStale i ha => exact .inl ⟨by simp [geometry_retireSlots], fun a => by simp⟩
  | retire i hl hlock => exact .inl ⟨geometry_retireSlots .., fun a => by simp⟩
  | dropMarks taken => exact .inl ⟨by simp [State.dropMarks, geometry_mapSlots], fun a => by simp [State.dropMarks]⟩
  | erase op time hf hop hl =>
    exact .inl ((sameLocks_beginErase s op).trans (sameLocks_startOp ..))
  | advance h =>
    have hstep : SameLocks s s.stepped := ⟨rfl, fun _ => rfl⟩
    exact .inl ((hstep.trans (sameLocks_alignmentCheck _)).trans (alike_advance s).sameLocks)
  | windowSet r ha =>
    have hset : SameLocks s ((s.putSettings (.good r)).bounded r.back r.ahead) := ⟨rfl, fun _ => rfl⟩
    have hcheck := hset.trans (sameLocks_alignmentCheck _)
    have htrim : SameLocks s ((s.putSettings (.good r)).bounded r.back r.ahead).alignmentCheck.trimCache := hcheck
    exact .inl ((htrim.trans (alike_applyWindow ..).sameLocks).trans (sameLocks_endOp _))
  | currentSet i c h ha =>
    have hset : SameLocks s (s.placed c h) := ⟨rfl, fun _ => rfl⟩
    exact .inl (((hset.trans (sameLocks_alignmentCheck _)).trans (alike_applyCurrent ..).sameLocks).trans (sameLocks_endOp _))
  | counterSet base limit ha =>
    unfold applyCounter
    split <;> exact .inl ⟨rfl, fun _ => rfl⟩
  | hold who hh =>
    exact .inl (State.holdActive_cases s who (SameLocks s) (fun _ _ _ => ⟨rfl, fun _ => rfl⟩) fun _ => ⟨rfl, fun _ => rfl⟩)
  | deliver w l r _ _ =>
    unfold State.deliver
    split <;> exact .inl ⟨rfl, fun _ => rfl⟩
  | startUp | softReset | lose | rstFalls | rstRises | rstReleases | waits => exact absurd rfl hk
  | _ => exact .inl ⟨rfl, fun _ => rfl⟩

/-- A LOAD in PREPARING after a move was so before it, or has just been accepted. -/
theorem Move.load_active {Q : Prop} {k : MoveKind} {s t : State} (m : Move Q k s t) (hk : k ≠ .supply) {l : Load}
    (ht : t.engine.active.map (·.op) = some (.load l)) :
    s.engine.active.map (·.op) = some (.load l) ∨
      s.engine.active = none ∧ s.lockedSlot l.slot = false ∧ (s.slot l.slot).state = .blank ∧ (∀ i, t.slot i = s.slot i) ∧
        (l.generation.isSome = true → s.ring.live = true ∧ l.slot = s.ring.slotAt s.store.geometry
          (s.ring.position (l.generation.getD 0))) := by
  cases m with
  | alike h => exact .inl (h.active ▸ ht)
  | load l' hon ha hb hblank hlock hgen =>
    cases ht
    exact .inr ⟨ha, hlock, hblank, fun _ => rfl, hgen⟩
  | retire i hl hlock => rw [State.retireSlots_engine] at ht; exact .inl ht
  | dropMarks taken => rw [State.dropMarks, State.mapSlots_engine] at ht; exact .inl ht
  | advance h =>
    rw [(alike_advance s).active, State.alignmentCheck_engine] at ht
    exact .inl ht
  | hold who hh =>
    refine State.holdActive_cases s who (fun t => t.engine.active.map (·.op) = some (.load l) → _) ?_ ?_ ht
    · exact fun _ _ _ h => by cases h
    · exact fun _ h => .inl h
  | deliver w m r _ _ =>
    unfold State.deliver at ht
    split at ht <;> exact .inl ht
  | counterSet base limit ha =>
    unfold applyCounter at ht
    split at ht <;> cases ht
  | lockSet a r ha => cases a <;> cases ht
  | startUp | softReset | lose | rstFalls | rstRises | rstReleases | waits => exact absurd rfl hk
  | program | programFailed | programLoaded | programStale | erase | erased | dropLoad | dropUnwrap | resume | reservation
  | genRecord | retireMarks | recordEnds | settings | setCurrent | setCounter | settingsEnd | windowSet | geometrySet
  | currentSet | reserved | reserveAgain | reserveGivenUp | counterKept => cases ht
  | _ => exact .inl ht

/-- While a settings write is under way no slot is PROGRAMMING or ERASING: nothing is held beside it (R148). -/
theorem EngineLaw.still_of_settings {s : State} (hs : EngineLaw s) {c : SettingsCommand} {r : Settings}
    (ha : s.engine.active.map (·.op) = some (.settings c r)) (i : SlotIx) :
    (s.slot i).state ≠ .programming ∧ (s.slot i).state ≠ .erasing := by
  have hway : ∀ op, ¬UnderWay (s.engine.active.map (·.op)) s.engine.held op := by
    rintro op (h | ⟨x, hx, -⟩)
    · rw [ha] at h; cases h
    · exact hs.rule.beside _ x ha hx
  refine ⟨fun h => hway _ (hs.rule.programming i h), fun h => ?_⟩
  obtain ⟨op, hu, -⟩ := hs.rule.erasing i h
  exact hway op hu

theorem lockLaw_iff (s : State) : LockLaw s ↔ EngineLaw s ∧
    (∀ i, s.lockedSlot i = true → (s.slot i).state ≠ .programming ∧ (s.slot i).state ≠ .erasing) ∧
    ∀ l, s.engine.active.map (·.op) = some (.load l) → s.lockedSlot l.slot = false := by
  refine and_congr Iff.rfl (and_congr Iff.rfl ⟨fun h l hl => ?_, fun h a l ha hop => ?_⟩)
  · obtain ⟨a, ha, hop⟩ := Option.map_eq_some_iff.mp hl
    exact h a l ha hop
  · exact h l (by rw [ha, ← hop]; rfl)

/-- A part with empty engines meets the law of the locked slots. -/
theorem lockLaw_of_empty {s : State} (hs : EngineLaw s) (ha : s.engine.active = none) (hh : s.engine.held = none) :
    LockLaw s := by
  have hway : ∀ op, ¬UnderWay (s.engine.active.map (·.op)) s.engine.held op := by
    rintro op (h | ⟨x, hx, -⟩)
    · rw [ha] at h; cases h
    · rw [hh] at hx; cases hx
  rw [lockLaw_iff]
  refine ⟨hs, fun i _ => ⟨fun h => hway _ (hs.rule.programming i h), fun h => ?_⟩, fun l hl => by rw [ha] at hl; cases hl⟩
  obtain ⟨op, hu, -⟩ := hs.rule.erasing i h
  exact hway op hu

theorem LockLaw.move {k : MoveKind} {s t : State} (m : Move True k s t) (hs : LockLaw s) : LockLaw t := by
  have hengine : EngineLaw t := hs.1.move m
  by_cases hk : k = .supply
  · subst hk
    cases m with
    | startUp => exact lockLaw_of_empty hengine (s.startUp_engine false).1 (s.startUp_engine false).2
    | softReset => exact lockLaw_of_empty hengine (s.abandon.startUp_engine true).1 (s.abandon.startUp_engine true).2
    | rstReleases =>
      have hempty := State.startUp_engine { s with rst := false } false
      exact lockLaw_of_empty hengine hempty.1 hempty.2
    | lose => exact lockLaw_of_empty hengine rfl rfl
    | rstFalls | rstRises | waits => exact ⟨hengine, hs.2⟩
  · rw [lockLaw_iff]
    refine ⟨hengine, ?_⟩
    rcases m.locks hk with hlocks | ⟨c, r, ha, hnone, hslots, -⟩
    · refine ⟨fun i hl => ?_, fun l hl => ?_⟩
      · rw [hlocks.lockedSlot] at hl
        rw [((m.slotChange hk hs.1 i).still hs hl).1]
        exact hs.2.1 i hl
      · rw [hlocks.lockedSlot]
        rcases m.load_active hk hl with h | ⟨-, h, -⟩
        · exact ((lockLaw_iff s).mp hs).2.2 l h
        · exact h
    · refine ⟨fun i _ => ?_, fun l hl => by rw [hnone] at hl; cases hl⟩
      rw [hslots]
      exact hs.1.still_of_settings ha i

/-- The slot is locked and as it was, under the law of the locked slots. -/
def StandsStill (i : SlotIx) (x : Slot) (s : State) : Prop :=
  LockLaw s ∧ s.lockedSlot i = true ∧ (s.slot i).state = x.state ∧ (s.slot i).fields = x.fields ∧ (s.slot i).key = x.key

theorem StandsStill.move {k : MoveKind} {s t : State} {i : SlotIx} {x : Slot} (m : Move True k s t) (hk : k ≠ .supply)
    (hg : k ≠ .geometry) (h : StandsStill i x s) : StandsStill i x t := by
  obtain ⟨hs, hl, hst, hf, hkey⟩ := h
  obtain ⟨hst', hf', hkey'⟩ := (m.slotChange hk hs.1 i).still hs hl
  refine ⟨hs.move m, ?_, hst'.trans hst, hf'.trans hf, hkey'.trans hkey⟩
  rcases m.locks hk with hlocks | ⟨c, r, -, -, -, hkeep⟩
  · rw [hlocks.lockedSlot, hl]
  · exact hkeep hg i hl

theorem State.slot_startInternal (s : State) (i : SlotIx) : s.startInternal.slot i = s.slot i :=
  State.startInternal_cases s (fun t => t.slot i = s.slot i) (fun _ _ => rfl) (fun _ _ _ => rfl) (fun _ _ _ => rfl)
    fun _ => rfl

theorem State.slot_proceed (s : State) (i : SlotIx) : s.proceed.slot i = s.slot i :=
  State.proceed_cases s (fun t => t.slot i = s.slot i) (fun _ => s.slot_startInternal i) (fun _ _ _ _ => rfl) fun _ _ => rfl

/-- The completion of SET_GEOMETRY touches no slot (R42). -/
theorem slot_of_execSetGeometryComplete {verified : Bool} {s t : State} (h : execSetGeometryComplete verified s = .next t)
    (i : SlotIx) : t.slot i = s.slot i := by
  unfold execSetGeometryComplete at h
  split at h
  · rename_i c0 r left ha
    dsimp only at h
    split at h
    · cases h
      unfold State.settingsDone
      rw [State.slot_proceed, State.slot_endOp, State.slot_outcome, (alike_applyGeometry ..).slot, State.closes,
        State.slot_mapLanesAt]
      exact s.slot_wait _ i
    · cases h
      unfold State.settingsFailed
      rw [State.slot_proceed, State.slot_endOp, State.slot_outcome]
      exact s.slot_wait _ i
  · cases h; rfl

/-- Settles O7: every move keeps the law of the locked slots, and none but those of the supply and of SET_GEOMETRY, which touches
no slot, changes a locked one. -/
theorem lockedSlotsStandStill : Obligations.LockedSlotsStandStill := by
  refine ⟨?kept, ?still⟩
  case kept =>
    exact kept_of_moves True (fun _ _ hs => hs.1.quiet)
      (fun _ pending hs => ⟨hs.1.of_waiting pending, hs.2⟩) fun _ _ _ m hs => hs.move m
  case still =>
    intro c s t i hs h hl h1 h2 h3 h4 h5
    by_cases hgeo : ∃ v, c = .setGeometryComplete v
    · obtain ⟨v, rfl⟩ := hgeo
      rw [slot_of_execSetGeometryComplete h]
      exact ⟨rfl, rfl, rfl⟩
    · have hkind : moveKind c ≠ .supply ∧ moveKind c ≠ .geometry := by
        cases c <;> simp_all [moveKind]
      have hstill : StandsStill i (s.slot i) t := by
        refine exec_keeps (P := StandsStill i (s.slot i)) (Q := True) (fun _ => hs.1.quiet) ?_ ⟨hs, hl, rfl, rfl, rfl⟩ h
        rintro k u v hk m hu
        refine hu.move m ?_ ?_ <;> rcases hk with rfl | rfl
        · decide
        · exact hkind.1
        · decide
        · exact hkind.2
      exact hstill.2.2

end Sys2Proof.Machine

/-! PROOFS. The law of the geometry and window (R22) and the law of the ring (R28, R42), from one lemma on what a move makes of the
ring and one on what it makes of the settings record. -/

namespace Sys2Proof.Machine

/-! ### What a move makes of the ring -/

/-- The ring and the geometry are the same, but for the timer. -/
structure SameRing (s t : State) : Prop where
  geometry : t.store.geometry = s.store.geometry
  live : t.ring.live = s.ring.live
  c : t.ring.c = s.ring.c
  h : t.ring.h = s.ring.h
  back : t.ring.back = s.ring.back
  ahead : t.ring.ahead = s.ring.ahead

theorem Alike.sameRing {s t : State} (h : Alike s t) : SameRing s t :=
  ⟨by rw [h.store], h.live, h.c, h.h, h.back, h.ahead⟩

theorem SameRing.trans {s t u : State} (h : SameRing s t) (h' : SameRing t u) : SameRing s u :=
  ⟨h'.geometry.trans h.geometry, h'.live.trans h.live, h'.c.trans h.c, h'.h.trans h.h, h'.back.trans h.back,
    h'.ahead.trans h.ahead⟩

theorem sameRing_alignmentCheck (s : State) : SameRing s s.alignmentCheck := by
  have hring : s.alignmentCheck.ring = s.ring := by rw [s.alignmentCheck_frame]
  exact ⟨(sameLocks_alignmentCheck s).1, by rw [hring], by rw [hring], by rw [hring], by rw [hring], by rw [hring]⟩

theorem sameRing_trimmed (s : State) : SameRing s s.alignmentCheck.trimCache :=
  (sameRing_alignmentCheck s).trans ⟨rfl, rfl, rfl, rfl, rfl, rfl⟩

theorem sameRing_closes (p : LaneIx → EntryIx → Session → Bool) (s : State) : SameRing s (s.closes p) :=
  ⟨rfl, rfl, rfl, rfl, rfl, rfl⟩

theorem sameRing_endOp (s : State) : SameRing s s.endOp := ⟨rfl, rfl, rfl, rfl, rfl, rfl⟩

theorem sameRing_startOp (s : State) (op : Operation) (time : Nat) : SameRing s (s.startOp op time) :=
  ⟨rfl, rfl, rfl, rfl, rfl, rfl⟩

theorem State.alignmentCheck_array (s : State) : s.alignmentCheck.array = s.array := by rw [s.alignmentCheck_frame]

theorem sameRing_advance (s : State) : SameRing s.stepped s.advance :=
  (sameRing_alignmentCheck s.stepped).trans (alike_advance s).sameRing

theorem sameRing_window (r : Settings) (s : State) :
    SameRing ((s.putSettings (.good r)).bounded r.back r.ahead) (applyWindow r (s.putSettings (.good r))).endOp :=
  ((sameRing_trimmed _).trans (alike_applyWindow r (s.putSettings (.good r))).sameRing).trans (sameRing_endOp _)

theorem sameRing_geometry (c0 : Gen) (r : Settings) (s : State) :
    SameRing (State.rebuilt c0 r (s.putSettings (.good r))) (applyGeometry c0 r (s.putSettings (.good r))).endOp :=
  (sameRing_closes _ _).trans ((alike_applyGeometry c0 r (s.putSettings (.good r))).sameRing.trans (sameRing_endOp _))

theorem sameRing_current (c : Gen) (h : Nat) (s : State) : SameRing (s.placed c h) (applyCurrent c h s).endOp :=
  ((sameRing_alignmentCheck _).trans (alike_applyCurrent c h s).sameRing).trans (sameRing_endOp _)

section
variable {s t : State} (h : SameRing s t) (i : SlotIx)
include h

theorem SameRing.areaOf : t.areaOf i = s.areaOf i := by simp only [State.areaOf, h.geometry]

theorem SameRing.inRing : t.inRing i = s.inRing i := by simp only [State.inRing, h.areaOf]

theorem SameRing.slotPosition : t.slotPosition i = s.slotPosition i := by
  unfold State.slotPosition Ring.slotPosition Ring.offset
  rw [h.geometry, h.h, h.back]

theorem SameRing.inWindow : t.inWindow i = s.inWindow i := by
  simp only [State.inWindow, Ring.inWindow, h.slotPosition, h.live, h.back, h.ahead]

theorem SameRing.standsFor : t.ring.standsFor t.store.geometry i = s.ring.standsFor s.store.geometry i := by
  have hp := h.slotPosition i
  simp only [State.slotPosition] at hp
  simp only [Ring.standsFor, Ring.genAt, hp, h.c]

theorem SameRing.aligned (hg : (t.slot i).generation = (s.slot i).generation) : t.aligned i = s.aligned i := by
  simp only [State.aligned, hg, h.standsFor]

end

/-- Of the moves of a running part only the advance and the completions of SET_WINDOW, SET_GEOMETRY and SET_CURRENT change the
ring. -/
theorem Move.ring {Q : Prop} {k : MoveKind} {s t : State} (m : Move Q k s t) (hk : k ≠ .supply) :
    SameRing s t ∨ s.ring.live = true ∧ t = s.advance ∨
      (∃ r, s.engine.active.map (·.op) = some (.settings .window r) ∧
        t = (applyWindow r (s.putSettings (.good r))).endOp) ∨
      (∃ c0 r, s.engine.active.map (·.op) = some (.settings (.geometry c0) r) ∧
        t = (applyGeometry c0 r (s.putSettings (.good r))).endOp) ∨
      ∃ i c h, s.engine.active.map (·.op) = some (.setCurrent i c h) ∧ t = (applyCurrent c h s).endOp := by
  cases m with
  | alike h => exact .inl h.sameRing
  | advance h => exact .inr (.inl ⟨h, rfl⟩)
  | windowSet r ha => exact .inr (.inr (.inl ⟨r, ha, rfl⟩))
  | geometrySet c0 r ha => exact .inr (.inr (.inr (.inl ⟨c0, r, ha, rfl⟩)))
  | currentSet i c h ha => exact .inr (.inr (.inr (.inr ⟨i, c, h, ha, rfl⟩)))
  | program w load kx key hw ht => exact .inl (by constructor <;> simp [State.beginProgram, State.endWork])
  | programFailed | programLoaded => exact .inl (by constructor <;> simp)
  | erased => exact .inl (by constructor <;> simp [geometry_mapSlots])
  | programStale i ha => exact .inl (by constructor <;> simp [geometry_retireSlots])
  | retire i hl hlock => exact .inl (by constructor <;> simp [geometry_retireSlots])
  | dropMarks taken => exact .inl (by constructor <;> simp [State.dropMarks, geometry_mapSlots])
  | erase op time hf hop hl =>
    have hbegun : SameRing s (s.beginErase op) := by
      unfold State.beginErase
      refine SameRing.trans ?_ (alike_settleRetry _).sameRing
      constructor <;> simp [geometry_mapSlots]
    exact .inl (hbegun.trans (sameRing_startOp ..))
  | counterSet base limit ha =>
    unfold applyCounter
    split <;> exact .inl ⟨rfl, rfl, rfl, rfl, rfl, rfl⟩
  | lockSet a r ha => cases a <;> exact .inl ⟨rfl, rfl, rfl, rfl, rfl, rfl⟩
  | hold who hh =>
    exact .inl (State.holdActive_cases s who (SameRing s) (fun _ _ _ => ⟨rfl, rfl, rfl, rfl, rfl, rfl⟩)
      fun _ => ⟨rfl, rfl, rfl, rfl, rfl, rfl⟩)
  | deliver w l r _ _ =>
    unfold State.deliver
    split <;> exact .inl ⟨rfl, rfl, rfl, rfl, rfl, rfl⟩
  | startUp | softReset | lose | rstFalls | rstRises | rstReleases | waits => exact absurd rfl hk
  | _ => exact .inl ⟨rfl, rfl, rfl, rfl, rfl, rfl⟩

/-! ### What a move makes of the settings record and of the operation in progress -/

theorem State.abandonActive_settings (s : State) :
    s.abandonActive.array.settings = s.array.settings ∨ s.abandonActive.array.settings = .damaged := by
  unfold State.abandonActive
  cases h : s.engine.active with
  | none => exact .inl rfl
  | some a =>
    obtain ⟨op, left⟩ := a
    cases op with
    | settings c r =>
      cases c with
      | lock a => cases a <;> exact .inr rfl
      | _ => exact .inr rfl
    | retireMarks slots retry => exact .inl (by simp [State.scatterMarks])
    | _ => exact .inl rfl

/-- The settings record after a move is what it was, or damaged, or what a completed settings write carried. -/
theorem Move.settingsRecord {Q : Prop} {k : MoveKind} {s t : State} (m : Move Q k s t) :
    t.array.settings = s.array.settings ∨ t.array.settings = .damaged ∨
      ∃ c r, s.engine.active.map (·.op) = some (.settings c r) ∧ t.array.settings = .good r := by
  cases m with
  | alike h => exact .inl h.settingsRecord
  | settingsEnd c r kept ha hkept =>
    rcases hkept with rfl | rfl
    · exact .inr (.inl rfl)
    · exact .inr (.inr ⟨c, r, ha, rfl⟩)
  | windowSet r ha =>
    have hset : (applyWindow r (s.putSettings (.good r))).array.settings = .good r := by
      rw [(alike_applyWindow ..).settingsRecord]
      exact congrArg NvArray.settings (State.alignmentCheck_array _)
    exact .inr (.inr ⟨_, r, ha, hset⟩)
  | geometrySet c0 r ha =>
    have hset := (alike_applyGeometry c0 r (s.putSettings (.good r))).settingsRecord
    exact .inr (.inr ⟨_, r, ha, hset⟩)
  | lockSet a r ha => exact .inr (.inr ⟨_, r, ha, by cases a <;> rfl⟩)
  | advance h =>
    rw [(alike_advance s).settingsRecord]
    exact .inl (congrArg NvArray.settings s.stepped.alignmentCheck_array)
  | currentSet i c h ha =>
    have hset : (applyCurrent c h s).array.settings = s.array.settings := by
      rw [(alike_applyCurrent ..).settingsRecord]
      exact congrArg NvArray.settings (s.placed c h).alignmentCheck_array
    exact .inl hset
  | program w load kx key hw ht => exact .inl (by simp [State.beginProgram, State.endWork])
  | programFailed | programLoaded | erased | programStale | retire => exact .inl (by simp)
  | dropMarks taken => exact .inl (by simp [State.dropMarks])
  | erase op time hf hop hl =>
    have hbegun : (s.beginErase op).array.settings = s.array.settings := by
      unfold State.beginErase
      rw [(alike_settleRetry _).settingsRecord]
      simp
    rw [State.startOp_array]
    exact .inl hbegun
  | counterSet base limit ha =>
    unfold applyCounter
    split <;> exact .inl rfl
  | hold who hh =>
    exact .inl (State.holdActive_cases s who (fun t => t.array.settings = s.array.settings) (fun _ _ _ => rfl) fun _ => rfl)
  | deliver w l r _ _ =>
    unfold State.deliver
    split <;> exact .inl rfl
  | startUp => exact .inl (by simp)
  | rstReleases => exact .inl (by rw [State.startUp_array])
  | softReset =>
    rw [State.startUp_array]
    exact s.abandonActive_settings.imp id .inl
  | lose => exact s.abandonActive_settings.imp id .inl
  | _ => exact .inl rfl

/-- A settings write in progress after a move was so before it, or has just begun. -/
theorem Move.settings_active {Q : Prop} {k : MoveKind} {s t : State} (m : Move Q k s t) (hk : k ≠ .supply)
    {c : SettingsCommand} {r : Settings} (ht : t.engine.active.map (·.op) = some (.settings c r)) :
    s.engine.active.map (·.op) = some (.settings c r) ∨
      (s.settings.Ok → s.ring.h < s.store.geometry.ring → r.Ok) ∧
      ((∀ c0, c ≠ .geometry c0) → r.geometry = s.store.geometry) ∧
      ((∃ c0, c = .geometry c0) → ∀ i, s.inRing i = true ∨ r.geometry.area i = .ring → (s.slot i).state = .blank) ∧
      ∀ i, t.slot i = s.slot i := by
  cases m with
  | alike h => exact .inl (h.active ▸ ht)
  | settings c' r' time hf hok hgeo hempty =>
    cases ht
    exact .inr ⟨hok, hgeo, hempty, fun _ => rfl⟩
  | retire i hl hlock => rw [State.retireSlots_engine] at ht; exact .inl ht
  | dropMarks taken => rw [State.dropMarks, State.mapSlots_engine] at ht; exact .inl ht
  | advance h =>
    rw [(alike_advance s).active, State.alignmentCheck_engine] at ht
    exact .inl ht
  | hold who hh =>
    refine State.holdActive_cases s who (fun t => t.engine.active.map (·.op) = some (.settings c r) → _) ?_ ?_ ht
    · exact fun _ _ _ h => by cases h
    · exact fun _ h => .inl h
  | deliver w m r _ _ =>
    unfold State.deliver at ht
    split at ht <;> exact .inl ht
  | counterSet base limit ha =>
    unfold applyCounter at ht
    split at ht <;> cases ht
  | lockSet a r ha => cases a <;> cases ht
  | startUp | softReset | lose | rstFalls | rstRises | rstReleases | waits => exact absurd rfl hk
  | load | program | programFailed | programLoaded | programStale | erase | erased | dropLoad | dropUnwrap | resume
  | reservation | genRecord | retireMarks | recordEnds | setCurrent | setCounter | settingsEnd | windowSet | geometrySet
  | currentSet | reserved | reserveAgain | reserveGivenUp | counterKept => cases ht
  | _ => exact .inl ht

/-- A SET_CURRENT in progress after a move was so before it, or has just begun. -/
theorem Move.current_active {Q : Prop} {k : MoveKind} {s t : State} (m : Move Q k s t) (hk : k ≠ .supply)
    {i : SlotIx} {c : Gen} {h : Nat} (ht : t.engine.active.map (·.op) = some (.setCurrent i c h)) :
    s.engine.active.map (·.op) = some (.setCurrent i c h) ∨
      s.ring.live = false ∧ s.inRing i = true ∧ h = i.val - s.store.geometry.head ∧ SameRing s t := by
  cases m with
  | alike h => exact .inl (h.active ▸ ht)
  | setCurrent i' g time hf hlive hring =>
    cases ht
    exact .inr ⟨hlive, hring, rfl, rfl, rfl, rfl, rfl, rfl, rfl⟩
  | retire i hl hlock => rw [State.retireSlots_engine] at ht; exact .inl ht
  | dropMarks taken => rw [State.dropMarks, State.mapSlots_engine] at ht; exact .inl ht
  | advance _ =>
    rw [(alike_advance s).active, State.alignmentCheck_engine] at ht
    exact .inl ht
  | hold who hh =>
    refine State.holdActive_cases s who (fun t => t.engine.active.map (·.op) = some (.setCurrent i c h) → _) ?_ ?_ ht
    · exact fun _ _ _ h => by cases h
    · exact fun _ h => .inl h
  | deliver w m r _ _ =>
    unfold State.deliver at ht
    split at ht <;> exact .inl ht
  | counterSet base limit ha =>
    unfold applyCounter at ht
    split at ht <;> cases ht
  | lockSet a r ha => cases a <;> cases ht
  | startUp | softReset | lose | rstFalls | rstRises | rstReleases | waits => exact absurd rfl hk
  | load | program | programFailed | programLoaded | programStale | erase | erased | dropLoad | dropUnwrap | resume
  | reservation | genRecord | retireMarks | recordEnds | settings | setCounter | settingsEnd | windowSet | geometrySet
  | currentSet | reserved | reserveAgain | reserveGivenUp | counterKept => cases ht
  | _ => exact .inl ht

/-! ### The law of the geometry and window -/

theorem windowLaw_iff (s : State) : WindowLaw s ↔
    (s.store.geometry.Ok ∧ s.ring.back ≤ s.store.geometry.ring - 2 ∧ s.ring.ahead ≤ 1) ∧
    s.ring.h < s.store.geometry.ring ∧ (∀ r, s.array.settings = .good r → r.Ok) ∧
    (∀ c r, s.engine.active.map (·.op) = some (.settings c r) →
      r.Ok ∧ ((∀ c0, c ≠ .geometry c0) → r.geometry = s.store.geometry)) ∧
    ∀ i g h, s.engine.active.map (·.op) = some (.setCurrent i g h) → h < s.store.geometry.ring := by
  refine and_congr Iff.rfl (and_congr Iff.rfl (and_congr Iff.rfl (and_congr ⟨fun h c r hc => ?_, fun h a c r ha hop => ?_⟩
    ⟨fun h i g o hc => ?_, fun h a i g o ha hop => ?_⟩)))
  · obtain ⟨a, ha, hop⟩ := Option.map_eq_some_iff.mp hc
    exact h a c r ha hop
  · exact h c r (by rw [ha, ← hop]; rfl)
  · obtain ⟨a, ha, hop⟩ := Option.map_eq_some_iff.mp hc
    exact h a i g o ha hop
  · exact h i g o (by rw [ha, ← hop]; rfl)

theorem Settings.factory_ok : Settings.factory.Ok := by
  unfold Settings.Ok Geometry.Ok
  decide

/-- The settings that a start-up takes obey the law of the geometry and window (R160). -/
theorem NvRecord.settingsTaken_ok {r : NvRecord Settings} (h : ∀ v, r = .good v → v.Ok) : r.settingsTaken.Ok := by
  cases r with
  | good v => exact h v rfl
  | erased | damaged => exact Settings.factory_ok

/-- What a start-up makes of the geometry and the ring (R47, R160). -/
theorem State.startUp_ring (s : State) (soft : Bool) :
    (s.startUp soft).store.geometry = s.array.settings.settingsTaken.geometry ∧
      (s.startUp soft).ring = ringAtStart s.array.settings.settingsTaken s.array.generation := by
  unfold State.startUp
  extract_lets set ring counter slots base
  rw [State.examineLowWater_frame, base.alignmentCheck_frame]
  exact ⟨(sameLocks_alignmentCheck base).1, rfl⟩

theorem ringAtStart_bounds (set : Settings) (r : NvRecord GenRecord) (hpos : 0 < set.geometry.ring) :
    (ringAtStart set r).back = set.back ∧ (ringAtStart set r).ahead = set.ahead ∧
      (ringAtStart set r).h < set.geometry.ring := by
  unfold ringAtStart
  dsimp only
  split
  · split
    · rename_i g h
      simp only [Bool.and_eq_true, decide_eq_true_eq] at h
      exact ⟨rfl, rfl, h.2⟩
    · exact ⟨rfl, rfl, hpos⟩
  · exact ⟨rfl, rfl, hpos⟩

theorem WindowLaw.startUp {s : State} (soft : Bool) (h : ∀ r, s.array.settings = .good r → r.Ok) :
    WindowLaw (s.startUp soft) := by
  obtain ⟨hgeo, hring⟩ := s.startUp_ring soft
  have hok := NvRecord.settingsTaken_ok h
  have hpos : 0 < s.array.settings.settingsTaken.geometry.ring := by
    obtain ⟨⟨-, h2, -⟩, -⟩ := hok
    omega
  obtain ⟨hback, hahead, hh⟩ := ringAtStart_bounds _ s.array.generation hpos
  have hnone := (s.startUp_engine soft).1
  rw [windowLaw_iff, hgeo, hring, hback, hahead, State.startUp_array, hnone]
  exact ⟨hok, hh, h, fun _ _ h => (by cases h), fun _ _ _ h => (by cases h)⟩

theorem abandonActive_settings_ok {s : State} (h : ∀ r, s.array.settings = .good r → r.Ok) :
    ∀ r, s.abandonActive.array.settings = .good r → r.Ok := by
  intro r hr
  rcases s.abandonActive_settings with he | he
  · exact h r (he ▸ hr)
  · rw [he] at hr; cases hr

theorem WindowLaw.move {Q : Prop} {k : MoveKind} {s t : State} (m : Move Q k s t) (hs : WindowLaw s) : WindowLaw t := by
  obtain ⟨hset, hh, hrecord, hactive, hcurrent⟩ := (windowLaw_iff s).mp hs
  by_cases hk : k = .supply
  · subst hk
    cases m with
    | startUp | rstReleases => exact WindowLaw.startUp _ hrecord
    | softReset => exact WindowLaw.startUp _ (abandonActive_settings_ok hrecord)
    | lose power rst _ =>
      rw [windowLaw_iff]
      exact ⟨Settings.factory_ok, (by decide : 0 < 48), abandonActive_settings_ok hrecord, fun _ _ h => (by cases h),
        fun _ _ _ h => (by cases h)⟩
    | rstFalls | rstRises | waits => exact hs
  · rw [windowLaw_iff]
    have hrecord' : ∀ r, t.array.settings = .good r → r.Ok := by
      intro r hr
      rcases m.settingsRecord with h | h | ⟨c, r', ha, h⟩
      · exact hrecord r (h ▸ hr)
      · rw [h] at hr; cases hr
      · rw [h] at hr
        cases hr
        exact (hactive c r ha).1
    rcases m.ring hk with hring | ⟨-, rfl⟩ | ⟨r, ha, rfl⟩ | ⟨c0, r, ha, rfl⟩ | ⟨i, c, h, ha, rfl⟩
    · refine ⟨by rw [hring.geometry, hring.back, hring.ahead]; exact hset, by rw [hring.geometry, hring.h]; exact hh,
        hrecord', fun c r hc => ?_, fun i g h hc => ?_⟩
      · rw [hring.geometry]
        rcases m.settings_active hk hc with h | ⟨hok, hgeo, -⟩
        · exact hactive c r h
        · exact ⟨hok hset hh, hgeo⟩
      · rw [hring.geometry]
        rcases m.current_active hk hc with h' | ⟨-, hr, rfl, -⟩
        · exact hcurrent i g h h'
        · have := (Geometry.area_eq_ring_iff s.store.geometry i).mp (by simpa [State.inRing, State.areaOf] using hr)
          omega
    · have hgeo : s.advance.store.geometry = s.store.geometry := (sameRing_advance s).geometry
      rw [State.advance_ring, hgeo, State.advance_active]
      exact ⟨hset, Nat.mod_lt _ (by omega), hrecord', hactive, hcurrent⟩
    · obtain ⟨hok, hgeo⟩ := hactive _ _ ha
      have hgeo := hgeo (by simp)
      have hnew := sameRing_window r s
      refine ⟨?_, ?_, hrecord', fun _ _ h => (by cases h), fun _ _ _ h => (by cases h)⟩
      · rw [hnew.geometry, hnew.back, hnew.ahead]
        unfold Settings.Ok at hok
        rw [hgeo] at hok
        exact hok
      · rw [hnew.geometry, hnew.h]
        exact hh
    · obtain ⟨hok, -⟩ := hactive _ _ ha
      have hnew := sameRing_geometry c0 r s
      refine ⟨?_, ?_, hrecord', fun _ _ h => (by cases h), fun _ _ _ h => (by cases h)⟩
      · rw [hnew.geometry, hnew.back, hnew.ahead]
        exact ⟨hok.1, Nat.min_le_right .., hset.2.2⟩
      · rw [hnew.geometry, hnew.h]
        obtain ⟨⟨-, h2, -⟩, -⟩ := hok
        exact (by omega : 0 < r.geometry.ring)
    · have hnew := sameRing_current c h s
      refine ⟨?_, ?_, hrecord', fun _ _ h => (by cases h), fun _ _ _ h => (by cases h)⟩
      · rw [hnew.geometry, hnew.back, hnew.ahead]
        exact hset
      · rw [hnew.geometry, hnew.h]
        exact hcurrent i c h ha

/-- Settles O5: every move keeps the law of the geometry and window. -/
theorem windowLawKept : Obligations.WindowLawKept :=
  kept_of_moves False False.elim (fun _ _ hs => hs) fun _ _ _ m hs => hs.move m

/-! ### The law of the ring -/

/-- A slot that is BLANK stays so, unless the program of a LOAD begins in it. -/
theorem SlotChange.blank {s : State} {i : SlotIx} {x : Slot} (h : SlotChange s i x) (hb : (s.slot i).state = .blank)
    (hl : ∀ l, s.engine.active.map (·.op) ≠ some (.load l)) : x.state = .blank := by
  cases h with
  | same => exact hb
  | unmark => exact hb
  | retire _ h => rcases h with h | h <;> rw [hb] at h <;> cases h
  | load h _ => rw [hb] at h; cases h
  | clear st _ _ h _ => exact absurd hb h
  | program l key ha _ _ => exact absurd ha (hl l)

theorem ringsEmpty_iff (s : State) : RingsEmpty s ↔ ∀ c0 r, s.engine.active.map (·.op) = some (.settings (.geometry c0) r) →
    ∀ i, s.inRing i = true ∨ r.geometry.area i = .ring → (s.slot i).state = .blank := by
  refine ⟨fun h c0 r hc => ?_, fun h a c0 r ha hop => ?_⟩
  · obtain ⟨a, ha, hop⟩ := Option.map_eq_some_iff.mp hc
    exact h a c0 r ha hop
  · exact h c0 r (by rw [ha, ← hop]; rfl)

theorem ringsEmpty_of_idle {s : State} (h : s.engine.active = none) : RingsEmpty s := by
  intro a c0 r ha
  rw [h] at ha
  cases ha

theorem RingsEmpty.move {k : MoveKind} {s t : State} (m : Move True k s t) (he : EngineLaw s) (hs : RingsEmpty s) :
    RingsEmpty t := by
  by_cases hk : k = .supply
  · subst hk
    cases m with
    | startUp => exact ringsEmpty_of_idle (State.startUp_engine ..).1
    | softReset => exact ringsEmpty_of_idle (State.startUp_engine ..).1
    | rstReleases => exact ringsEmpty_of_idle (State.startUp_engine ..).1
    | lose => exact ringsEmpty_of_idle rfl
    | rstFalls | rstRises | waits => exact hs
  · rw [ringsEmpty_iff] at hs ⊢
    intro c0 r ht i hi
    have hgeo : t.store.geometry = s.store.geometry := by
      rcases m.locks hk with h | ⟨_, _, -, hnone, -⟩
      · exact h.1
      · rw [hnone] at ht; cases ht
    have hring : t.inRing i = s.inRing i := by simp only [State.inRing, State.areaOf, hgeo]
    rw [hring] at hi
    rcases m.settings_active hk ht with h | ⟨-, -, hempty, hslots⟩
    · exact (m.slotChange hk he i).blank (hs c0 r h i hi) fun l hl => by rw [h] at hl; cases hl
    · rw [hslots]
      exact hempty ⟨c0, rfl⟩ i hi

/-- A slot LOADED after a move was so before it with the same generation, or its program has just ended, of a ring slot where the
ring's generations place it. -/
theorem SlotChange.loaded {s : State} {i : SlotIx} {x : Slot} (h : SlotChange s i x) (hx : x.state = .loaded) :
    x.generation = (s.slot i).generation ∧ ((s.slot i).state = .loaded ∨ (s.slot i).state = .programming ∧
      (s.inRing i = true → s.ring.live = true ∧ s.aligned i = true)) := by
  cases h with
  | same => exact ⟨rfl, .inl hx⟩
  | unmark => exact ⟨rfl, .inl hx⟩
  | retire _ h => cases hx
  | load h hin => exact ⟨rfl, .inr ⟨h, hin⟩⟩
  | clear st _ h _ _ =>
    rw [show st = .loaded from hx] at h
    cases h
  | program l key _ _ _ => cases hx

/-- The last clause of the law of the ring (R28). -/
def RingAligned (s : State) : Prop :=
  s.ring.live = true → ∀ i, s.inRing i = true → (s.slot i).state = .loaded → s.aligned i = true

theorem RingAligned.of_same {s t : State} (h : RingAligned s) (hr : SameRing s t) (hslot : ∀ i, t.slot i = s.slot i) :
    RingAligned t := by
  intro hl i hi hst
  rw [hr.aligned i (by rw [hslot])]
  exact h (hr.live ▸ hl) i (hr.inRing i ▸ hi) (hslot i ▸ hst)

theorem RingAligned.alike {s t : State} (h : RingAligned s) (ha : Alike s t) : RingAligned t := h.of_same ha.sameRing ha.slot

/-- The alignment check makes the ring aligned (R28). -/
theorem ringAligned_alignmentCheck (s : State) : RingAligned s.alignmentCheck := by
  have hring := sameRing_alignmentCheck s
  intro hl i hi hst
  obtain ⟨ha, hslot⟩ := State.alignmentCheck_aligned s (hring.live ▸ hl) i (hring.inRing i ▸ hi) hst
  rw [hring.aligned i (by rw [hslot]), ha]

theorem ringAligned_startUp (s : State) (soft : Bool) : RingAligned (s.startUp soft) := by
  unfold State.startUp
  extract_lets set ring counter slots base
  have hlow : ∀ u : State, SameRing u u.examineLowWater ∧ ∀ i, u.examineLowWater.slot i = u.slot i := fun u => by
    rw [u.examineLowWater_frame]
    exact ⟨⟨rfl, rfl, rfl, rfl, rfl, rfl⟩, fun _ => rfl⟩
  exact (ringAligned_alignmentCheck base).of_same (hlow _).1 (hlow _).2

theorem ringAligned_of_not_loaded {s : State} (h : ∀ i, s.inRing i = true → (s.slot i).state ≠ .loaded) : RingAligned s :=
  fun _ i hi hst => absurd hst (h i hi)

theorem RingAligned.move {k : MoveKind} {s t : State} (m : Move True k s t) (he : EngineLaw s) (hempty : RingsEmpty s)
    (hs : RingAligned s) : RingAligned t := by
  by_cases hk : k = .supply
  · subst hk
    cases m with
    | startUp | softReset | rstReleases => exact ringAligned_startUp _ _
    | lose power rst _ =>
      refine ringAligned_of_not_loaded fun i _ => ?_
      rw [show ({ s.abandon.unpowered with power := power, rst := rst } : State).slot i = s.abandon.unpowered.slot i from rfl,
        State.unpowered_slot]
      exact SlotState.noConfusion
    | rstFalls | rstRises | waits => exact hs
  · rcases m.ring hk with hring | ⟨-, rfl⟩ | ⟨r, ha, rfl⟩ | ⟨c0, r, ha, rfl⟩ | ⟨i, c, h, ha, rfl⟩
    · intro hl i hi hst
      rw [hring.live] at hl
      rw [hring.inRing] at hi
      obtain ⟨hgen, hsrc⟩ := (m.slotChange hk he i).loaded hst
      rw [hring.aligned i hgen]
      rcases hsrc with hst' | ⟨-, hin⟩
      · exact hs hl i hi hst'
      · exact (hin hi).2
    · exact (ringAligned_alignmentCheck s.stepped).alike (alike_advance s)
    · have hcheck := ringAligned_alignmentCheck ((s.putSettings (.good r)).bounded r.back r.ahead)
      have htrim := hcheck.of_same (t := State.trimCache _) ⟨rfl, rfl, rfl, rfl, rfl, rfl⟩ (State.slot_trimCache _)
      exact (htrim.alike (alike_applyWindow ..)).of_same (sameRing_endOp _) fun _ => State.slot_endOp ..
    · have hnew := sameRing_geometry c0 r s
      refine ringAligned_of_not_loaded fun i hi => ?_
      rw [hnew.inRing] at hi
      have harea : r.geometry.area i = .ring := by simpa [State.inRing, State.areaOf, State.rebuilt] using hi
      have hblank := (ringsEmpty_iff s).mp hempty c0 r ha i (.inr harea)
      rw [State.slot_endOp, (alike_applyGeometry ..).slot, State.closes, State.slot_mapLanesAt]
      rw [show (State.rebuilt c0 r (s.putSettings (.good r))).slot i = s.slot i from rfl, hblank]
      exact SlotState.noConfusion
    · exact ((ringAligned_alignmentCheck (s.placed c h)).alike (alike_applyCurrent c h s)).of_same (sameRing_endOp _) fun _ =>
        State.slot_endOp ..

theorem RingLaw.move {k : MoveKind} {s t : State} (m : Move True k s t) (hs : RingLaw s) : RingLaw t := by
  obtain ⟨he, hempty, ha⟩ := hs
  exact ⟨he.move m, hempty.move m he, RingAligned.move m he hempty ha⟩

/-- Settles O8: every move keeps the law of the ring. -/
theorem ringLawKept : Obligations.RingLawKept :=
  kept_of_moves True (fun _ _ hs => hs.1.quiet) (fun _ pending hs => ⟨hs.1.of_waiting pending, hs.2⟩) fun _ _ _ m hs =>
    hs.move m

end Sys2Proof.Machine

/-! PROOFS. The law of the session table (R90). A session comes from an accepted ANSWER alone, and a LOADED ring slot loses its
generation only where the sessions and the cache entries of that generation go (R60, R61, R103, R104). -/

namespace Sys2Proof.Machine

/-! ### Where an open session comes from -/

theorem Entry.closeIf_session {p : Session → Bool} {e : Entry} {x : Session} (h : (e.closeIf p).session = some x) :
    e.session = some x ∧ p x = false := by
  unfold Entry.closeIf at h
  split at h
  · rename_i y hy
    split at h
    · cases h
    · rename_i hp
      rw [hy] at h
      cases h
      exact ⟨hy, Bool.of_not_eq_true hp⟩
  · rename_i hy
    rw [hy] at h
    cases h

theorem Lane.loseSessions_session {x : Lane} {p : Session → Bool} {e : EntryIx} {y : Session}
    (h : ((x.loseSessions p).sessions[e]).session = some y) : (x.sessions[e]).session = some y ∧ p y = false := by
  rw [Lane.loseSessions_sessions] at h
  exact Entry.closeIf_session h

/-- Every open session was open before, with the same generation. -/
def NoNewSessions (s t : State) : Prop :=
  ∀ l e x, ((t.lane l).sessions[(e : EntryIx)]).session = some x →
    ∃ y, ((s.lane l).sessions[e]).session = some y ∧ y.generation = x.generation

theorem noNewSessions_of_same {s t : State} (h : ∀ l, (t.lane l).sessions = (s.lane l).sessions) : NoNewSessions s t := by
  intro l e x hx
  rw [h] at hx
  exact ⟨x, hx, rfl⟩

theorem Alike.noNewSessions {s t : State} (h : Alike s t) : NoNewSessions s t := noNewSessions_of_same h.sessions

theorem noNewSessions_of_lanes {s t : State} (h : t.lanes = s.lanes) : NoNewSessions s t :=
  noNewSessions_of_same fun l => by simp only [State.lane, h]

theorem NoNewSessions.trans {s t u : State} (h : NoNewSessions s t) (h' : NoNewSessions t u) : NoNewSessions s u := by
  intro l e x hx
  obtain ⟨y, hy, hyx⟩ := h' l e x hx
  obtain ⟨z, hz, hzy⟩ := h l e y hy
  exact ⟨z, hz, hzy.trans hyx⟩

theorem noNewSessions_setLane (s : State) (l : LaneIx) {x : Lane}
    (hx : ∀ (e : EntryIx) v, (x.sessions[e]).session = some v →
      ∃ y, ((s.lane l).sessions[e]).session = some y ∧ y.generation = v.generation) : NoNewSessions s (s.setLane l x) := by
  intro k e v hv
  rw [State.lane_setLane] at hv
  split at hv
  · subst k; exact hx e v hv
  · exact ⟨v, hv, rfl⟩

theorem noNewSessions_setLane_same (s : State) (l : LaneIx) {x : Lane} (hx : x.sessions = (s.lane l).sessions) :
    NoNewSessions s (s.setLane l x) := noNewSessions_setLane s l fun _ v hv => ⟨v, hx ▸ hv, rfl⟩

theorem noNewSessions_lose {s t : State} {p : LaneIx → Session → Bool}
    (h : ∀ l, t.lane l = (s.lane l).loseSessions (p l)) : NoNewSessions s t := by
  intro l e x hx
  rw [h] at hx
  exact ⟨x, (Lane.loseSessions_session hx).1, rfl⟩

theorem noNewSessions_closes (s : State) (p : LaneIx → EntryIx → Session → Bool) : NoNewSessions s (s.closes p) := by
  intro l e x hx
  rw [State.closes, State.lane_mapLanesAt] at hx
  simp only [Fin.getElem_fin, Vector.getElem_ofFn] at hx
  exact ⟨x, (Entry.closeIf_session hx).1, rfl⟩

theorem noNewSessions_discards (s : State) (p : LaneIx → Bool) : NoNewSessions s (s.discards p) := by
  intro l e x hx
  rw [show (s.discards p).lane l = if p l then (s.lane l).discard else s.lane l from
    s.lane_mapLanesAt (fun l x => if p l then x.discard else x) l] at hx
  split at hx
  · exact ⟨x, (Lane.loseSessions_session (x := s.lane l) hx).1, rfl⟩
  · exact ⟨x, hx, rfl⟩

theorem noNewSessions_retireSlots (s : State) (p : SlotIx → Bool) : NoNewSessions s (s.retireSlots p) :=
  noNewSessions_lose (s.lane_retireSlots p)

theorem noNewSessions_alignmentCheck (s : State) : NoNewSessions s s.alignmentCheck := by
  unfold State.alignmentCheck
  split
  · exact noNewSessions_retireSlots s _
  · exact (Alike.refl s).noNewSessions

theorem noNewSessions_endOp (s : State) : NoNewSessions s s.endOp := noNewSessions_of_lanes rfl

theorem noNewSessions_startOp (s : State) (op : Operation) (time : Nat) : NoNewSessions s (s.startOp op time) :=
  noNewSessions_of_lanes rfl

theorem noNewSessions_beginErase (s : State) (op : SlotOp) : NoNewSessions s (s.beginErase op) := by
  unfold State.beginErase
  refine NoNewSessions.trans ?_ (alike_settleRetry _).noNewSessions
  refine noNewSessions_lose (p := fun _ x => s.generationsOf (s.erasable op) x.generation) fun l => ?_
  rw [State.lane_purge, State.lane_mapNvSlots, State.lane_mapSlots]

theorem Lane.endHead_sessions (x : Lane) (code : Code) : (x.endHead code).sessions = x.sessions := by
  unfold Lane.endHead
  split <;> rfl

theorem Lane.lapse_sessions (x : Lane) (place : Nat) : (x.lapse place).sessions = x.sessions := by
  unfold Lane.lapse
  split
  · exact x.endHead_sessions _
  · rfl

/-- A start-up leaves no session open. -/
theorem State.startUp_sessions (s : State) (soft : Bool) (l : LaneIx) (e : EntryIx) :
    (((s.startUp soft).lane l).sessions[e]).session = none := by
  unfold State.startUp
  extract_lets set ring counter slots base
  have hlow : ∀ u : State, u.examineLowWater.lane l = u.lane l := fun u => by rw [u.examineLowWater_frame]; rfl
  have hbase : ((base.lane l).sessions[e]).session = none := by simp [State.lane, base, Lane.initial]
  rw [hlow, Option.eq_none_iff_forall_ne_some]
  intro x hx
  obtain ⟨y, hy, -⟩ := noNewSessions_alignmentCheck base l e x hx
  rw [hbase] at hy
  cases hy

theorem State.unpowered_sessions (s : State) (l : LaneIx) (e : EntryIx) :
    ((s.unpowered.lane l).sessions[e]).session = none := by
  simp [State.lane, State.unpowered, State.reset, Lane.initial]

/-- Of the moves only the opening of a session by an accepted ANSWER makes one (R94). -/
theorem Move.sessions {Q : Prop} {k : MoveKind} {s t : State} (m : Move Q k s t) (hk : k ≠ .supply) :
    NoNewSessions s t ∨ ∃ l e serial v i, (s.slot i).state = .loaded ∧ (s.slot i).generation = some v.generation ∧
      t = s.opens l e serial v := by
  cases m with
  | alike h => exact .inl h.noNewSessions
  | opens l e serial v i h h' => exact .inr ⟨l, e, serial, v, i, h, h', rfl⟩
  | submit l j _ => exact .inl (noNewSessions_setLane_same s l rfl)
  | fetch l r rest _ => exact .inl (noNewSessions_setLane_same s l rfl)
  | lapse l place => exact .inl (noNewSessions_setLane_same s l (Lane.lapse_sessions ..))
  | discards p => exact .inl (noNewSessions_discards s p)
  | closes p => exact .inl (noNewSessions_closes s p)
  | verified l e v hv =>
    refine .inl (noNewSessions_setLane s l fun f x hx => ?_)
    simp only [Lane.setSession, Fin.getElem_fin, Vector.getElem_set] at hx
    split at hx
    · rename_i hef
      obtain rfl : e = f := Fin.ext hef
      cases hx
      exact ⟨v, hv, rfl⟩
    · exact ⟨x, hx, rfl⟩
  | endHead l code _ => exact .inl (noNewSessions_setLane_same s l (Lane.endHead_sessions ..))
  | take l blocks task _ _ =>
    exact .inl ((noNewSessions_setLane_same s l (x := { s.lane l with jobs := (s.lane l).jobs.drop 1 }) rfl).trans
      (noNewSessions_of_lanes rfl))
  | enterWait l j rest k _ _ _ =>
    exact .inl ((noNewSessions_setLane_same s l (x := { s.lane l with counterWait := true }) rfl).trans
      (noNewSessions_of_lanes rfl))
  | deliver w l r _ _ =>
    unfold State.deliver
    split
    · exact .inl (noNewSessions_of_lanes rfl)
    · exact .inl ((noNewSessions_setLane_same s l (x := (s.lane l).pushResult r) rfl).trans (noNewSessions_of_lanes rfl))
  | leaveWait => exact .inl (noNewSessions_of_same fun l => by rw [State.lane_report])
  | counterSet base limit ha =>
    unfold applyCounter
    split <;> exact .inl (noNewSessions_of_lanes rfl)
  | lockSet a r ha => cases a <;> exact .inl (noNewSessions_of_lanes rfl)
  | program w load kx key hw ht => exact .inl (noNewSessions_of_same fun l => by simp [State.beginProgram, State.endWork, State.lane])
  | programFailed | programLoaded | erased | dropMarks =>
    exact .inl (noNewSessions_of_same fun l => by simp [State.dropMarks])
  | programStale i ha => exact .inl ((noNewSessions_retireSlots s _).trans (noNewSessions_endOp _))
  | retire i _ _ => exact .inl (noNewSessions_retireSlots s _)
  | erase op time _ _ _ => exact .inl ((noNewSessions_beginErase s op).trans (noNewSessions_startOp _ _ _))
  | advance _ => exact .inl ((noNewSessions_alignmentCheck s.stepped).trans (alike_advance s).noNewSessions)
  | windowSet r ha =>
    have hcheck := noNewSessions_alignmentCheck ((s.putSettings (.good r)).bounded r.back r.ahead)
    have htrim := hcheck.trans (u := State.trimCache _) (noNewSessions_of_lanes rfl)
    exact .inl ((htrim.trans (alike_applyWindow r (s.putSettings (.good r))).noNewSessions).trans (noNewSessions_endOp _))
  | geometrySet c0 r ha =>
    have hcloses := noNewSessions_closes (State.rebuilt c0 r (s.putSettings (.good r))) fun _ _ _ => true
    exact .inl ((hcloses.trans (alike_applyGeometry c0 r (s.putSettings (.good r))).noNewSessions).trans (noNewSessions_endOp _))
  | currentSet i c h ha =>
    have hcheck := noNewSessions_alignmentCheck (s.placed c h)
    exact .inl ((hcheck.trans (alike_applyCurrent c h s).noNewSessions).trans (noNewSessions_endOp _))
  | hold who hh =>
    exact .inl (State.holdActive_cases s who (NoNewSessions s) (fun _ _ _ => noNewSessions_of_lanes rfl)
      fun _ => noNewSessions_of_lanes rfl)
  | startUp | softReset | lose | rstFalls | rstRises | rstReleases | waits => exact absurd rfl hk
  | _ => exact .inl (noNewSessions_of_lanes rfl)

/-! ### What becomes of a generation that a LOADED ring slot holds -/

/-- A LOADED ring slot that holds the generation still does. -/
def Survives (s t : State) (g : Gen) : Prop :=
  ∀ i, s.inRing i = true → (s.slot i).state = .loaded → (s.slot i).generation = some g →
    t.inRing i = true ∧ (t.slot i).state = .loaded ∧ (t.slot i).generation = some g

/-- No session and no cache entry of the generation is left. -/
def Purged (t : State) (g : Gen) : Prop :=
  (∀ l e x, ((t.lane l).sessions[(e : EntryIx)]).session = some x → x.generation ≠ g) ∧ ∀ e ∈ t.cache, e.generation ≠ g

/-- The generation keeps its LOADED ring slots, or it is purged. -/
def Fate (s t : State) (g : Gen) : Prop := Survives s t g ∨ Purged t g

theorem survives_of_store {s t : State} (h : t.store = s.store) (g : Gen) : Survives s t g := by
  intro i hi hst hg
  simp only [State.inRing, State.areaOf, State.slot, h]
  exact ⟨hi, hst, hg⟩

theorem Survives.trans {s t u : State} {g : Gen} (h : Survives s t g) (h' : Survives t u g) : Survives s u g := by
  intro i hi hst hg
  obtain ⟨hi, hst, hg⟩ := h i hi hst hg
  exact h' i hi hst hg

theorem Survives.fate {s t u : State} {g : Gen} (h : Survives s t g) (h' : Fate t u g) : Fate s u g := h'.imp h.trans id

/-- What follows a move, touches no slot and makes no session and no cache entry leaves the fate of a generation. -/
theorem Fate.followed {s t u : State} {g : Gen} (h : Fate s t g) (hstore : u.store = t.store) (hsessions : NoNewSessions t u)
    (hcache : ∀ e ∈ u.cache, e ∈ t.cache) : Fate s u g := by
  refine h.imp (·.trans (survives_of_store hstore g)) fun hp => ⟨fun l e x hx => ?_, fun e he => hp.2 e (hcache e he)⟩
  obtain ⟨y, hy, hyx⟩ := hsessions l e x hx
  exact hyx ▸ hp.1 l e y hy

theorem Fate.alike {s t u : State} {g : Gen} (h : Fate s t g) (ha : Alike t u) : Fate s u g :=
  h.followed ha.store ha.noNewSessions fun _ he => ha.cache ▸ he

theorem Fate.endOp {s t : State} {g : Gen} (h : Fate s t g) : Fate s t.endOp g :=
  h.followed rfl (noNewSessions_endOp t) fun _ he => he

theorem Fate.trimCache {s t : State} {g : Gen} (h : Fate s t g) : Fate s t.trimCache g :=
  h.followed rfl (noNewSessions_of_lanes rfl) fun _ he => (List.mem_filter.mp he).1

theorem Fate.startOp {s t : State} {g : Gen} (h : Fate s t g) (op : Operation) (time : Nat) : Fate s (t.startOp op time) g :=
  h.followed rfl (noNewSessions_startOp t op time) fun _ he => he

theorem State.generationsOf_eq_true {s : State} {p : SlotIx → Bool} {g : Gen} {i : SlotIx} (hp : p i = true)
    (hi : s.inRing i = true) (hg : (s.slot i).generation = some g) : s.generationsOf p g = true := by
  unfold State.generationsOf
  refine List.any_eq_true.mpr ⟨i, by simp [allSlots], ?_⟩
  simp [hp, hi, hg]

theorem fate_retireSlots (s : State) (p : SlotIx → Bool) (g : Gen) : Fate s (s.retireSlots p) g := by
  cases hg : s.generationsOf p g
  · refine .inl fun i hi hst hgen => ?_
    have hp : p i = false := by
      rw [← Bool.not_eq_true]
      intro hp
      rw [State.generationsOf_eq_true hp hi hgen] at hg
      cases hg
    rw [State.inRing_retireSlots, State.slot_retireSlots, hp]
    exact ⟨hi, hst, hgen⟩
  · refine .inr ⟨fun l e x hx hxg => ?_, fun e he heg => ?_⟩
    · rw [State.lane_retireSlots] at hx
      have hgone := (Lane.loseSessions_session hx).2
      rw [hxg, hg] at hgone
      cases hgone
    · rw [State.cache_retireSlots] at he
      have hgone := (List.mem_filter.mp he).2
      rw [heg, hg] at hgone
      cases hgone

/-- The alignment check of a state with the same slots. -/
theorem fate_alignmentCheck {s u : State} (h : u.store = s.store) (g : Gen) : Fate s u.alignmentCheck g := by
  refine (survives_of_store h g).fate ?_
  unfold State.alignmentCheck
  split
  · exact fate_retireSlots ..
  · exact .inl (survives_of_store rfl g)

theorem State.cache_beginErase (s : State) (op : SlotOp) :
    (s.beginErase op).cache = s.cache.filter fun e => !s.generationsOf (s.erasable op) e.generation := by
  unfold State.beginErase
  rw [(alike_settleRetry _).cache]
  simp

theorem State.sessions_beginErase (s : State) (op : SlotOp) (l : LaneIx) :
    ((s.beginErase op).lane l).sessions =
      ((s.lane l).loseSessions fun x => s.generationsOf (s.erasable op) x.generation).sessions := by
  unfold State.beginErase
  rw [(alike_settleRetry _).sessions]
  simp

theorem fate_beginErase (s : State) (op : SlotOp) (g : Gen) : Fate s (s.beginErase op) g := by
  cases hg : s.generationsOf (s.erasable op) g
  · refine .inl fun i hi hst hgen => ?_
    have hp : s.erasable op i = false := by
      rw [← Bool.not_eq_true]
      intro hp
      rw [State.generationsOf_eq_true hp hi hgen] at hg
      cases hg
    have hring : (s.beginErase op).inRing i = s.inRing i := by
      simp only [State.inRing, State.areaOf, (sameLocks_beginErase s op).1]
    rw [hring, State.slot_beginErase, hp]
    exact ⟨hi, hst, hgen⟩
  · refine .inr ⟨fun l e x hx hxg => ?_, fun e he heg => ?_⟩
    · rw [State.sessions_beginErase] at hx
      have hgone := (Lane.loseSessions_session hx).2
      rw [hxg, hg] at hgone
      cases hgone
    · rw [State.cache_beginErase] at he
      have hgone := (List.mem_filter.mp he).2
      rw [heg, hg] at hgone
      cases hgone

/-- A write of slots that are not LOADED, and of nothing but slots. -/
theorem survives_of_slots {s t : State} (hgeo : t.store.geometry = s.store.geometry) (g : Gen)
    (h : ∀ i, (s.slot i).state = .loaded → (t.slot i).state = .loaded ∧ (t.slot i).generation = (s.slot i).generation) :
    Survives s t g := by
  intro i hi hst hg
  obtain ⟨hst', hg'⟩ := h i hst
  simp only [State.inRing, State.areaOf, hgeo]
  exact ⟨hi, hst', hg'.trans hg⟩

/-- A slot of a move that is neither retired nor cleared. -/
theorem survives_setSlot (s : State) (j : SlotIx) (x : Slot) (hj : (s.slot j).state ≠ .loaded) (g : Gen) :
    Survives s (s.setSlot j x) g := by
  refine survives_of_slots (by simp) g fun i hi => ?_
  have hne : j ≠ i := fun h => hj (h ▸ hi)
  rw [State.slot_setSlot, if_neg hne]
  exact ⟨hi, rfl⟩

theorem Move.fate {Q : Prop} {k : MoveKind} {s t : State} (m : Move Q k s t) (hk : k ≠ .supply) (hs : EngineLaw s) (g : Gen) :
    Fate s t g := by
  have hprogram : ∀ j, s.engine.active.map (·.op) = some (.slotOp (.program j)) → (s.slot j).state ≠ .loaded := by
    intro j ha
    rw [show (s.slot j).state = .programming from hs.rule.programs j (.inl ha)]
    decide
  cases m with
  | alike h => exact .inl (survives_of_store h.store g)
  | program w load kx key hw ht =>
    have ha := hs.rule.unwraps load kx (by rw [hw, ← ht]; rfl)
    have hb : (s.slot load.slot).state ≠ .loaded := by
      rw [show (s.slot load.slot).state = .blank from hs.rule.loads load ha]
      decide
    refine .inl (survives_of_slots (by simp [State.beginProgram, State.endWork]) g fun i hi => ?_)
    have hne : load.slot ≠ i := fun h => hb (h ▸ hi)
    rw [State.slot_beginProgram, if_neg hne]
    exact ⟨hi, rfl⟩
  | programFailed j ha => exact Fate.endOp (.inl (survives_setSlot s j _ (hprogram j ha) g))
  | programLoaded j ha _ => exact Fate.endOp (.inl (survives_setSlot s j _ (hprogram j ha) g))
  | programStale j ha => exact (fate_retireSlots ..).endOp
  | erase op time _ _ _ => exact (fate_beginErase s op g).startOp _ _
  | erased op failed ha _ =>
    refine Fate.endOp (.inl (survives_of_slots (by simp [geometry_mapSlots]) g fun i hi => ?_))
    have he : s.beingErased op i = false := by
      unfold State.beingErased
      rw [hi]
      exact Bool.and_false _
    rw [State.slot_mapSlots, he]
    exact ⟨hi, rfl⟩
  | retire j _ _ => exact fate_retireSlots ..
  | dropMarks taken =>
    refine .inl (survives_of_slots (by simp [State.dropMarks, geometry_mapSlots]) g fun i hi => ?_)
    simp only [State.dropMarks, State.slot_mapSlots]
    split <;> exact ⟨hi, rfl⟩
  | advance _ => exact (fate_alignmentCheck (u := s.stepped) rfl g).alike (alike_advance s)
  | windowSet r ha =>
    have hstore : ((s.putSettings (.good r)).bounded r.back r.ahead).store = s.store := rfl
    have hcheck := fate_alignmentCheck hstore g
    exact (hcheck.trimCache.alike (alike_applyWindow r (s.putSettings (.good r)))).endOp
  | geometrySet c0 r ha =>
    have hgone : Fate s ((State.rebuilt c0 r (s.putSettings (.good r))).closes fun _ _ _ => true) g := by
      refine .inr ⟨fun l e x hx => ?_, fun e he => ?_⟩
      · rw [State.closes, State.lane_mapLanesAt] at hx
        simp only [Fin.getElem_fin, Vector.getElem_ofFn] at hx
        cases (Entry.closeIf_session hx).2
      · cases he
    exact (hgone.alike (alike_applyGeometry c0 r (s.putSettings (.good r)))).endOp
  | currentSet i c h ha =>
    have hstore : (s.placed c h).store = s.store := rfl
    have hcheck := fate_alignmentCheck hstore g
    exact (hcheck.alike (alike_applyCurrent c h s)).endOp
  | counterSet base limit ha =>
    unfold applyCounter
    split <;> exact .inl (survives_of_store rfl g)
  | lockSet a r ha => cases a <;> exact .inl (survives_of_store rfl g)
  | hold who hh =>
    exact .inl (State.holdActive_cases s who (Survives s · g) (fun _ _ _ => survives_of_store rfl g)
      fun _ => survives_of_store rfl g)
  | deliver w l r _ _ =>
    unfold State.deliver
    split <;> exact .inl (survives_of_store rfl g)
  | startUp | softReset | lose | rstFalls | rstRises | rstReleases | waits => exact absurd rfl hk
  | _ => exact .inl (survives_of_store rfl g)

/-! ### Which slots hold generations -/

theorem generationsInRing_iff (s : State) : GenerationsInRing s ↔
    (∀ i, (s.slot i).generation.isSome = true → s.inRing i = true) ∧
    ∀ l, s.engine.active.map (·.op) = some (.load l) → l.generation.isSome = true → s.inRing l.slot = true := by
  refine and_congr Iff.rfl ⟨fun h l hc => ?_, fun h a l ha hop => ?_⟩
  · obtain ⟨a, ha, hop⟩ := Option.map_eq_some_iff.mp hc
    exact h a l ha hop
  · exact h l (by rw [ha, ← hop]; rfl)

theorem NvSlot.keep_generation {x : NvSlot} {a : Area} {f : SlotFields} {st : SlotState}
    (h : (x.keep a f st).generation.isSome = true) : a = .ring := by
  unfold NvSlot.keep at h
  split at h
  · cases a with
    | ring => rfl
    | head | tail => cases h
  · cases h

theorem NvSlot.classify_generation {x : NvSlot} {a : Area} (h : (x.classify a).generation.isSome = true) : a = .ring := by
  unfold NvSlot.classify at h
  split at h
  · cases h
  · split at h
    · exact NvSlot.keep_generation h
    · exact NvSlot.keep_generation h
    · cases h

/-- At start-up only ring slots hold generations (R20). -/
theorem GenerationsInRing.startUp (s : State) (soft : Bool) : GenerationsInRing (s.startUp soft) := by
  rw [generationsInRing_iff, (s.startUp_engine soft).1]
  refine ⟨fun i hi => ?_, fun _ h => by cases h⟩
  have harea : s.array.settings.settingsTaken.geometry.area i = .ring := by
    rcases s.startUp_slot soft i with h | ⟨-, h⟩ <;> rw [h] at hi <;> exact NvSlot.classify_generation hi
  simp only [State.inRing, State.areaOf, (s.startUp_ring soft).1, harea, beq_self_eq_true]

/-- Only SET_GEOMETRY changes which slots are ring slots; it touches no slot and leaves the write engine empty (R42). -/
theorem Move.inRing {Q : Prop} {k : MoveKind} {s t : State} (m : Move Q k s t) (hk : k ≠ .supply) :
    (∀ i, t.inRing i = s.inRing i) ∨
      (∃ c0 r, s.engine.active.map (·.op) = some (.settings (.geometry c0) r)) ∧ t.engine.active = none ∧
        ∀ i, t.slot i = s.slot i := by
  have hgeometry : ∀ {u : State}, u.store.geometry = s.store.geometry → ∀ i, u.inRing i = s.inRing i := fun h i => by
    simp only [State.inRing, State.areaOf, h]
  rcases m.ring hk with h | ⟨-, rfl⟩ | ⟨r, ha, rfl⟩ | ⟨c0, r, ha, rfl⟩ | ⟨i, c, h, ha, rfl⟩
  · exact .inl h.inRing
  · exact .inl (hgeometry (sameRing_advance s).geometry)
  · exact .inl (hgeometry (sameRing_window r s).geometry)
  · refine .inr ⟨⟨c0, r, ha⟩, rfl, fun i => ?_⟩
    rw [State.slot_endOp, (alike_applyGeometry c0 r (s.putSettings (.good r))).slot, State.closes, State.slot_mapLanesAt]
    rfl
  · exact .inl (hgeometry (sameRing_current c h s).geometry)

/-- A slot that holds a generation after a move held it before, or the program of a LOAD has begun in it. -/
theorem SlotChange.generation {s : State} {i : SlotIx} {x : Slot} (h : SlotChange s i x) (hx : x.generation.isSome = true) :
    (s.slot i).generation.isSome = true ∨
      ∃ l, s.engine.active.map (·.op) = some (.load l) ∧ l.slot = i ∧ l.generation.isSome = true := by
  cases h with
  | same => exact .inl hx
  | unmark => exact .inl hx
  | retire _ _ => exact .inl hx
  | load _ _ => exact .inl hx
  | clear st _ _ _ _ => cases hx
  | program l key ha hi _ => exact .inr ⟨l, ha, hi, hx⟩

theorem Slot.Ok.generation_blank {x : Slot} (h : x.Ok) (hb : x.state = .blank) : x.generation = none := by
  obtain ⟨hfields, -, -⟩ := h
  rw [hb] at hfields
  simp only [SlotState.holdsKey] at hfields
  unfold Slot.generation
  rw [Option.isSome_eq_false_iff, Option.isNone_iff_eq_none] at hfields
  rw [hfields]
  rfl

theorem GenerationsInRing.move {k : MoveKind} {s t : State} (m : Move True k s t) (hw : WindowLaw s) (hs : SlotLaw s)
    (hempty : RingsEmpty s) (hg : GenerationsInRing s) : GenerationsInRing t := by
  by_cases hk : k = .supply
  · subst hk
    cases m with
    | startUp | softReset | rstReleases => exact GenerationsInRing.startUp ..
    | lose power rst _ =>
      rw [generationsInRing_iff]
      refine ⟨fun i hi => ?_, fun _ h => by cases h⟩
      rw [show ({ s.abandon.unpowered with power := power, rst := rst } : State).slot i = s.abandon.unpowered.slot i from rfl,
        State.unpowered_slot] at hi
      cases hi
    | rstFalls | rstRises | waits => exact hg
  · rw [generationsInRing_iff] at hg ⊢
    obtain ⟨hslots, hload⟩ := hg
    rcases m.inRing hk with hring | ⟨⟨c0, r, ha⟩, hnone, hsame⟩
    · refine ⟨fun i hi => ?_, fun l hl hlg => ?_⟩
      · rw [hring]
        rcases (m.slotChange hk hs.1 i).generation hi with h | ⟨l, ha, rfl, hlg⟩
        · exact hslots i h
        · exact hload l ha hlg
      · rw [hring]
        rcases m.load_active hk hl with h | ⟨-, -, -, -, h⟩
        · exact hload l h hlg
        · obtain ⟨-, hplace⟩ := h hlg
          have hgeo : s.store.geometry.Ok := hw.1.1
          simp only [State.inRing, State.areaOf, hplace, Ring.slotAt_area _ _ _ hgeo, beq_self_eq_true]
    · refine ⟨fun i hi => ?_, fun l hl => by rw [hnone] at hl; cases hl⟩
      rw [hsame] at hi
      have hblank := (ringsEmpty_iff s).mp hempty c0 r ha i (.inl (hslots i hi))
      rw [(hs.2 i).generation_blank hblank] at hi
      cases hi

/-! ### The law of the session table -/

/-- The last clause of the law of the session table (R90). -/
def SessionsHeld (s : State) : Prop :=
  ∀ l e x, ((s.lane l).sessions[(e : EntryIx)]).session = some x → s.ringHolds x.generation

theorem sessionsHeld_of_none {s : State} (h : ∀ l e, ((s.lane l).sessions[(e : EntryIx)]).session = none) : SessionsHeld s := by
  intro l e x hx
  rw [h] at hx
  cases hx

theorem Survives.ringHolds {s t : State} {g : Gen} (h : Survives s t g) (hs : s.ringHolds g) : t.ringHolds g := by
  obtain ⟨i, hi, hst, hg⟩ := hs
  exact ⟨i, h i hi hst hg⟩

theorem SessionsHeld.move {k : MoveKind} {s t : State} (m : Move True k s t) (he : EngineLaw s) (hg : GenerationsInRing s)
    (hs : SessionsHeld s) : SessionsHeld t := by
  by_cases hk : k = .supply
  · subst hk
    cases m with
    | startUp | softReset | rstReleases => exact sessionsHeld_of_none (State.startUp_sessions _ _)
    | lose power rst _ => exact sessionsHeld_of_none s.abandon.unpowered_sessions
    | rstFalls | rstRises | waits => exact hs
  · rcases m.sessions hk with hsource | ⟨l, e, serial, v, i, hst, hgen, rfl⟩
    · intro l e x hx
      obtain ⟨y, hy, hyx⟩ := hsource l e x hx
      rcases m.fate hk he x.generation with h | h
      · exact h.ringHolds (hyx ▸ hs l e y hy)
      · exact absurd rfl (h.1 l e x hx)
    · have hkeep : ∀ g, s.ringHolds g → (s.opens l e serial v).ringHolds g := fun g h => h
      intro k f x hx
      refine hkeep _ ?_
      unfold State.opens at hx
      rw [State.lane_setLane] at hx
      split at hx
      · subst k
        simp only [Fin.getElem_fin, Vector.getElem_set] at hx
        split at hx
        · cases hx
          exact ⟨i, hg.1 i (by rw [hgen]; rfl), hst, hgen⟩
        · exact hs l f x hx
      · exact hs k f x hx

theorem SessionLaw.move {k : MoveKind} {s t : State} (m : Move True k s t) (h : SessionLaw s) : SessionLaw t := by
  obtain ⟨hw, hs, hempty, hg, hheld⟩ := h
  exact ⟨hw.move m, hs.move m, RingsEmpty.move m hs.1 hempty, GenerationsInRing.move m hw hs hempty hg,
    SessionsHeld.move m hs.1 hg hheld⟩

/-- Settles O9: every move keeps the law of the session table. -/
theorem sessionLawKept : Obligations.SessionLawKept := by
  refine kept_of_moves True (fun _ _ h => h.2.1.1.quiet) (fun _ pending h => ?_) fun _ _ _ m h => h.move m
  obtain ⟨hw, hs, hrest⟩ := h
  exact ⟨hw, ⟨hs.1.of_waiting pending, hs.2⟩, hrest⟩

end Sys2Proof.Machine

/-! PROOFS. The law of the tag key cache (R56). Its entries keep a LOADED ring slot or are purged with it; an aligned ring slot has
the position of the generation it holds, which moves one place back at an advance and stays at every other change of the ring. -/

namespace Sys2Proof.Machine

/-! ### The list of the cache -/

theorem CacheOk.sublist {c d : List CacheEntry} (h : CacheOk c) (hd : d.Sublist c) : CacheOk d :=
  ⟨Nat.le_trans hd.length_le h.1, h.2.sublist hd⟩

theorem cacheRemove_sublist (tag : BitVec 64) (g : Gen) (c : List CacheEntry) : (cacheRemove tag g c).Sublist c :=
  List.filter_sublist

theorem not_same_of_mem_cacheRemove {x e : CacheEntry} {c : List CacheEntry} (h : x ∈ cacheRemove e.tagId e.generation c) :
    ¬(x.tagId = e.tagId ∧ x.generation = e.generation) := by
  have hother := (List.mem_filter.mp h).2
  rintro ⟨htag, hgen⟩
  rw [htag, hgen] at hother
  simp at hother

/-- An entry joins the most-recent end of a cache with room and none of its tag and generation. -/
theorem CacheOk.append {c : List CacheEntry} {e : CacheEntry} (h : CacheOk c) (hroom : c.length < 32)
    (hnew : ∀ x ∈ c, ¬(x.tagId = e.tagId ∧ x.generation = e.generation)) : CacheOk (c ++ [e]) := by
  refine ⟨by simp only [List.length_append, List.length_singleton]; omega, ?_⟩
  rw [List.pairwise_append]
  refine ⟨h.2, List.pairwise_singleton .., fun x hx y hy => ?_⟩
  rw [List.mem_singleton] at hy
  subst hy
  exact hnew x hx

theorem CacheOk.touch {c : List CacheEntry} {e : CacheEntry} (h : CacheOk c) (he : e ∈ c) : CacheOk (cacheTouch e c) := by
  have hshorter : (cacheRemove e.tagId e.generation c).length < c.length := by
    refine List.length_filter_lt_length_iff_exists.mpr ⟨e, he, ?_⟩
    simp
  have hlength := h.1
  exact (h.sublist (cacheRemove_sublist ..)).append (by omega) fun x hx => not_same_of_mem_cacheRemove hx

theorem CacheOk.insert {c : List CacheEntry} (h : CacheOk c) (e : CacheEntry) : CacheOk (cacheInsert e c) := by
  have hrest := h.sublist (cacheRemove_sublist e.tagId e.generation c)
  have hlength := hrest.1
  unfold cacheInsert
  dsimp only
  split
  · refine (hrest.sublist (List.drop_sublist ..)).append ?_ fun x hx => not_same_of_mem_cacheRemove (List.mem_of_mem_drop hx)
    rw [List.length_drop]
    omega
  · rename_i hroom
    exact hrest.append (by simpa [Config.cacheRoom] using hroom) fun x hx => not_same_of_mem_cacheRemove hx

theorem mem_cacheTouch {c : List CacheEntry} {e x : CacheEntry} (he : e ∈ c) (h : x ∈ cacheTouch e c) : x ∈ c := by
  rcases List.mem_append.mp h with h | h
  · exact (cacheRemove_sublist ..).mem h
  · rw [List.mem_singleton] at h
    exact h ▸ he

theorem mem_cacheInsert {c : List CacheEntry} {e x : CacheEntry} (h : x ∈ cacheInsert e c) : x ∈ c ∨ x = e := by
  rcases List.mem_append.mp h with h | h
  · left
    split at h
    · exact (cacheRemove_sublist ..).mem (List.mem_of_mem_drop h)
    · exact (cacheRemove_sublist ..).mem h
  · exact .inr (List.mem_singleton.mp h)

/-! ### What a move makes of the cache -/

theorem State.cache_alignmentCheck_sublist (s : State) : s.alignmentCheck.cache.Sublist s.cache := by
  unfold State.alignmentCheck
  split
  · rw [State.cache_retireSlots]
    exact List.filter_sublist
  · exact List.Sublist.refl _

theorem State.cache_trimCache_sublist (s : State) : s.trimCache.cache.Sublist s.cache := List.filter_sublist

theorem State.cache_closes (p : LaneIx → EntryIx → Session → Bool) (s : State) : (s.closes p).cache = s.cache := rfl

theorem State.cache_rebuilt (c0 : Gen) (r : Settings) (s : State) : (s.rebuilt c0 r).cache = [] := rfl

/-- Of the moves only the hit and the insert of an ANSWER do more to the cache than take entries from it. -/
theorem Move.cache {Q : Prop} {k : MoveKind} {s t : State} (m : Move Q k s t) (hk : k ≠ .supply) :
    t.cache.Sublist s.cache ∨
      t.store = s.store ∧ t.ring = s.ring ∧ ((∃ e ∈ s.cache, t.cache = cacheTouch e s.cache) ∨
        ∃ e i, s.mayInsert e.generation i = true ∧ t.cache = cacheInsert e s.cache) := by
  have hsame : ∀ {u : State}, u.cache = s.cache → u.cache.Sublist s.cache := fun h => h ▸ List.Sublist.refl _
  cases m with
  | alike h => exact .inl (hsame h.cache)
  | touch e he => exact .inr ⟨rfl, rfl, .inl ⟨e, he, rfl⟩⟩
  | insert e i he => exact .inr ⟨rfl, rfl, .inr ⟨e, i, he, rfl⟩⟩
  | program w load kx key hw ht => exact .inl (hsame (by simp [State.beginProgram, State.endWork]))
  | programFailed | programLoaded | erased => exact .inl (hsame (by simp))
  | dropMarks => exact .inl (hsame (by simp [State.dropMarks]))
  | programStale i ha =>
    rw [State.endOp_cache, State.cache_retireSlots]
    exact .inl List.filter_sublist
  | retire i _ _ =>
    rw [State.cache_retireSlots]
    exact .inl List.filter_sublist
  | erase op time _ _ _ =>
    rw [State.startOp_cache, State.cache_beginErase]
    exact .inl List.filter_sublist
  | advance _ =>
    rw [(alike_advance s).cache]
    exact .inl (State.cache_alignmentCheck_sublist s.stepped)
  | windowSet r ha =>
    rw [State.endOp_cache, (alike_applyWindow r (s.putSettings (.good r))).cache]
    have hcheck := State.cache_alignmentCheck_sublist ((s.putSettings (.good r)).bounded r.back r.ahead)
    exact .inl ((State.cache_trimCache_sublist _).trans hcheck)
  | geometrySet c0 r ha =>
    rw [State.endOp_cache, (alike_applyGeometry c0 r (s.putSettings (.good r))).cache, State.cache_closes, State.cache_rebuilt]
    exact .inl (List.nil_sublist _)
  | currentSet i c h ha =>
    rw [State.endOp_cache, (alike_applyCurrent c h s).cache]
    exact .inl (State.cache_alignmentCheck_sublist (s.placed c h))
  | counterSet base limit ha =>
    unfold applyCounter
    split <;> exact .inl (hsame rfl)
  | lockSet a r ha => cases a <;> exact .inl (hsame rfl)
  | hold who hh =>
    exact .inl (hsame (State.holdActive_cases s who (fun t => t.cache = s.cache) (fun _ _ _ => rfl) fun _ => rfl))
  | deliver w l r _ _ =>
    unfold State.deliver
    split <;> exact .inl (hsame rfl)
  | startUp | softReset | lose | rstFalls | rstRises | rstReleases | waits => exact absurd rfl hk
  | _ => exact .inl (hsame rfl)

theorem Move.cacheOk {Q : Prop} {k : MoveKind} {s t : State} (m : Move Q k s t) (hk : k ≠ .supply) (h : CacheOk s.cache) :
    CacheOk t.cache := by
  rcases m.cache hk with hsub | ⟨-, -, ⟨e, he, hc⟩ | ⟨e, i, -, hc⟩⟩
  · exact h.sublist hsub
  · rw [hc]; exact h.touch he
  · rw [hc]; exact h.insert e

/-! ### Positions of the generations that slots hold -/

/-- An aligned slot has the position of the generation it holds (R26, R28). -/
theorem State.position_of_aligned {s : State} {i : SlotIx} {g : Gen} (hw : WindowLaw s) (ha : s.aligned i = true)
    (hg : (s.slot i).generation = some g) : s.ring.position g = s.slotPosition i := by
  obtain ⟨⟨hgeo, hback, -⟩, -⟩ := hw
  obtain ⟨-, hring, hsmall, -, -⟩ : s.store.geometry.Ok := hgeo
  have hback : s.ring.back ≤ s.store.geometry.ring - 2 := hback
  have hrange := (Ring.inRange_iff ..).mp (s.ring.slotPosition_inRange s.store.geometry i (by omega))
  have hstands : g = s.ring.genAt (s.ring.slotPosition s.store.geometry i) := by
    have hsome : some g = some (s.ring.standsFor s.store.geometry i) := by rw [← hg]; simpa [State.aligned] using ha
    exact Option.some.inj hsome
  rw [hstands, Ring.position_genAt s.ring (by omega) (by omega)]
  rfl

theorem State.slotPosition_low {s : State} (hw : WindowLaw s) (i : SlotIx) : -(s.ring.back : Int) ≤ s.slotPosition i := by
  obtain ⟨⟨hgeo, hback, -⟩, -⟩ := hw
  obtain ⟨-, hring, -, -, -⟩ : s.store.geometry.Ok := hgeo
  have hback : s.ring.back ≤ s.store.geometry.ring - 2 := hback
  exact ((Ring.inRange_iff ..).mp (s.ring.slotPosition_inRange s.store.geometry i (by omega))).1

/-- The position of a generation moves one place back at an advance, unless it is the lowest (R24, R31). -/
theorem Ring.position_step {r r' : Ring} (hc : r'.c = r.c + 1) (g : Gen) (hlow : -2048 < r.position g) :
    r'.position g = r.position g - 1 := by
  have hnext : r'.c.toNat = (r.c.toNat + 1) % 4096 := by rw [hc]; exact BitVec.toNat_add r.c 1
  have hmod := r.position_emod g
  have hbounds := r.position_bounds g
  exact r'.position_eq_of_emod_eq g (by omega) (by omega) (by omega)

theorem State.inWindow_iff (s : State) (i : SlotIx) : s.inWindow i = true ↔
    s.ring.live = true ∧ -(s.ring.back : Int) ≤ s.slotPosition i ∧ s.slotPosition i ≤ s.ring.ahead := by
  simp [State.inWindow, Ring.inWindow]

/-! ### The law of the tag key cache -/

/-- The slot is LOADED with the generation and inside the window. -/
def State.Carries (s : State) (i : SlotIx) (g : Gen) : Prop :=
  s.inRing i = true ∧ s.inWindow i = true ∧ (s.slot i).state = .loaded ∧ (s.slot i).generation = some g

theorem carries_of_mayInsert {s : State} {g : Gen} {i : SlotIx} (hg : GenerationsInRing s) (h : s.mayInsert g i = true) :
    s.Carries i g := by
  simp only [State.mayInsert, Bool.and_eq_true, beq_iff_eq] at h
  obtain ⟨⟨⟨-, hst⟩, hgen⟩, hin⟩ := h
  exact ⟨hg.1 i (by rw [hgen]; rfl), hin, hst, hgen⟩

/-- A slot that keeps its generation through a move stays inside the window, but for the entries that SET_WINDOW trims (R40, R62);
under an UNSET ring no slot is inside it. -/
theorem Move.inWindow {k : MoveKind} {s t : State} (m : Move True k s t) (hk : k ≠ .supply) (hw : WindowLaw s)
    (hr : RingLaw s) (hcurrent : ∀ i g h, s.engine.active.map (·.op) = some (.setCurrent i g h) → s.ring.live = false)
    {i : SlotIx} {g : Gen} (h : s.Carries i g) (hi : t.inRing i = true) (hst : (t.slot i).state = .loaded)
    (hg : (t.slot i).generation = some g) (hcache : ∃ e ∈ t.cache, e.generation = g) : t.inWindow i = true := by
  obtain ⟨hi0, hin0, hst0, hg0⟩ := h
  obtain ⟨hlive, hlow, hhigh⟩ := (s.inWindow_iff i).mp hin0
  have hw' : WindowLaw t := hw.move m
  have hr' : RingLaw t := hr.move m
  have hpos := State.position_of_aligned hw (hr.2.2 hlive i hi0 hst0) hg0
  have hpos' : t.ring.live = true → t.ring.position g = t.slotPosition i := fun hl =>
    State.position_of_aligned hw' (hr'.2.2 hl i hi hst) hg
  rcases m.ring hk with hsame | ⟨-, rfl⟩ | ⟨r, ha, rfl⟩ | ⟨c0, r, ha, rfl⟩ | ⟨j, c, h, ha, rfl⟩
  · rw [hsame.inWindow]
    exact hin0
  · have hnew := sameRing_advance s
    have hlive' : s.advance.ring.live = true := hnew.live.trans hlive
    have hback : s.advance.ring.back = s.ring.back := hnew.back
    have hahead : s.advance.ring.ahead = s.ring.ahead := hnew.ahead
    have hsmall : s.ring.back ≤ s.store.geometry.ring - 2 ∧ s.store.geometry.ring ≤ 48 := ⟨hw.1.2.1, hw.1.1.2.2.1⟩
    have hstep : s.advance.ring.position g = s.ring.position g - 1 := Ring.position_step hnew.c g (by omega)
    have hlow' := State.slotPosition_low hw' i
    have hplace := hpos' hlive'
    rw [State.inWindow_iff]
    exact ⟨hlive', hlow', by omega⟩
  · have hnew := sameRing_window r s
    have hlive' : (applyWindow r (s.putSettings (.good r))).endOp.ring.live = true := hnew.live.trans hlive
    obtain ⟨e, he, rfl⟩ := hcache
    have hkept : (applyWindow r (s.putSettings (.good r))).endOp.ring.inWindow
        ((applyWindow r (s.putSettings (.good r))).endOp.ring.position e.generation) = true := by
      rw [State.endOp_cache, (alike_applyWindow r (s.putSettings (.good r))).cache] at he
      have hin := (List.mem_filter.mp he).2
      have hcheck := (sameRing_alignmentCheck ((s.putSettings (.good r)).bounded r.back r.ahead))
      rw [hcheck.live, show ((s.putSettings (.good r)).bounded r.back r.ahead).ring.live = s.ring.live from rfl, hlive] at hin
      simp only [Bool.not_true, Bool.false_or, Ring.inWindow, Ring.position, hcheck.back, hcheck.ahead, hcheck.c] at hin
      simp only [Ring.inWindow, Ring.position, hnew.back, hnew.ahead, hnew.c]
      exact hin
    rw [hpos' hlive'] at hkept
    rw [State.inWindow, hlive', Bool.true_and]
    exact hkept
  · obtain ⟨e, he, -⟩ := hcache
    rw [State.endOp_cache, (alike_applyGeometry c0 r (s.putSettings (.good r))).cache, State.cache_closes,
      State.cache_rebuilt] at he
    cases he
  · rw [hcurrent j c h ha] at hlive
    cases hlive

/-- A SET_CURRENT is written only while the ring is UNSET (R43). -/
theorem Move.current_unset {Q : Prop} {k : MoveKind} {s t : State} (m : Move Q k s t) (hk : k ≠ .supply)
    (hs : ∀ i g h, s.engine.active.map (·.op) = some (.setCurrent i g h) → s.ring.live = false) :
    ∀ i g h, t.engine.active.map (·.op) = some (.setCurrent i g h) → t.ring.live = false := by
  intro i g h ht
  have hunset : s.ring.live = false := by
    rcases m.current_active hk ht with ha | ⟨hl, -⟩
    · exact hs i g h ha
    · exact hl
  rcases m.ring hk with hsame | ⟨hl, -⟩ | ⟨r, ha, rfl⟩ | ⟨c0, r, ha, rfl⟩ | ⟨j, c, h, ha, rfl⟩
  · rw [hsame.live, hunset]
  · rw [hunset] at hl; cases hl
  · cases ht
  · cases ht
  · cases ht

theorem State.startUp_cache (s : State) (soft : Bool) : (s.startUp soft).cache = [] := by
  unfold State.startUp
  extract_lets set ring counter slots base
  have hlow : ∀ u : State, u.examineLowWater.cache = u.cache := fun u => by rw [u.examineLowWater_frame]
  rw [hlow]
  exact List.eq_nil_of_subset_nil (State.cache_alignmentCheck_sublist base).subset

/-- The clauses of the law of the tag key cache that are its own. -/
def CacheHeld (s : State) : Prop :=
  (∀ i g h, s.engine.active.map (·.op) = some (.setCurrent i g h) → s.ring.live = false) ∧ CacheOk s.cache ∧
    ∀ e ∈ s.cache, ∃ i, s.Carries i e.generation

theorem cacheLaw_iff (s : State) :
    CacheLaw s ↔ WindowLaw s ∧ RingLaw s ∧ SlotLaw s ∧ GenerationsInRing s ∧ CacheHeld s := by
  refine and_congr Iff.rfl (and_congr Iff.rfl (and_congr Iff.rfl (and_congr Iff.rfl (and_congr ?_ Iff.rfl))))
  refine ⟨fun h i g o hc => ?_, fun h a i g o ha hop => ?_⟩
  · obtain ⟨a, ha, hop⟩ := Option.map_eq_some_iff.mp hc
    exact h a i g o ha hop
  · exact h i g o (by rw [ha, ← hop]; rfl)

theorem cacheHeld_of_empty {s : State} (hc : s.cache = []) (ha : s.engine.active = none) : CacheHeld s := by
  refine ⟨fun i g h h' => (by rw [ha] at h'; cases h'), ?_, fun e he => by rw [hc] at he; cases he⟩
  rw [hc]
  exact ⟨Nat.zero_le _, .nil⟩

theorem CacheHeld.move {k : MoveKind} {s t : State} (m : Move True k s t) (hw : WindowLaw s) (hr : RingLaw s)
    (hg : GenerationsInRing s) (hs : CacheHeld s) : CacheHeld t := by
  by_cases hk : k = .supply
  · subst hk
    cases m with
    | startUp | softReset | rstReleases => exact cacheHeld_of_empty (State.startUp_cache ..) (State.startUp_engine ..).1
    | lose power rst _ => exact cacheHeld_of_empty rfl rfl
    | rstFalls | rstRises | waits => exact hs
  · obtain ⟨hcurrent, hok, hheld⟩ := hs
    refine ⟨m.current_unset hk hcurrent, m.cacheOk hk hok, fun e he => ?_⟩
    have hstays : ∀ i, s.Carries i e.generation → t.Carries i e.generation := by
      intro i hi
      rcases m.fate hk hr.1 e.generation with h | h
      · obtain ⟨hin, hst, hgen⟩ := h i hi.1 hi.2.2.1 hi.2.2.2
        exact ⟨hin, m.inWindow hk hw hr hcurrent hi hin hst hgen ⟨e, he, rfl⟩, hst, hgen⟩
      · exact absurd rfl (h.2 e he)
    have hbefore : ∃ i, s.Carries i e.generation := by
      rcases m.cache hk with hsub | ⟨-, -, ⟨e', he', hc⟩ | ⟨e', i, hmay, hc⟩⟩
      · exact hheld e (hsub.mem he)
      · exact hheld e (mem_cacheTouch he' (hc ▸ he))
      · rcases mem_cacheInsert (hc ▸ he) with h | rfl
        · exact hheld e h
        · exact ⟨i, carries_of_mayInsert hg hmay⟩
    obtain ⟨i, hi⟩ := hbefore
    exact ⟨i, hstays i hi⟩

theorem CacheLaw.move {k : MoveKind} {s t : State} (m : Move True k s t) (h : CacheLaw s) : CacheLaw t := by
  rw [cacheLaw_iff] at h ⊢
  obtain ⟨hw, hr, hs, hg, hc⟩ := h
  exact ⟨hw.move m, hr.move m, hs.move m, GenerationsInRing.move m hw hs hr.2.1 hg, CacheHeld.move m hw hr hg hc⟩

/-- Settles O10: every move keeps the law of the tag key cache. -/
theorem cacheLawKept : Obligations.CacheLawKept := by
  refine kept_of_moves True (fun _ _ h => h.2.1.1.quiet) (fun _ pending h => ?_) fun _ _ _ m h => h.move m
  obtain ⟨hw, ⟨he, hring⟩, hs, hrest⟩ := h
  exact ⟨hw, ⟨he.of_waiting pending, hring⟩, ⟨hs.1.of_waiting pending, hs.2⟩, hrest⟩

end Sys2Proof.Machine

/-! PROOFS. The law of the receipt counter (R115) and that receipt numbers never fall back (R124). The law reads the counter, its
record, the operation in progress and the outstanding reservation, and is stated again over these four. -/

namespace Sys2Proof.Machine

/-! ### The rule of the counter -/

/-- The law of the receipt counter over what it reads: the counter, its record, the operation in progress and the outstanding
reservation. -/
structure CounterRule (c : Counter) (record : NvRecord Nat) (op : Option Operation) (asked : Option CounterRequest) : Prop where
  running : c.state = .running → c.next ≤ c.limit ∧ c.next < Config.counterTop ∧ c.limit ≤ Config.counterTop ∧
    ∀ v, record = .good v → v = c.limit
  exhausted : c.state = .exhausted → c.next = Config.counterTop ∧ c.limit = Config.counterTop ∧
    ∀ v, record = .good v → v = c.limit
  record : ∀ v, record = .good v → v ≤ Config.counterTop
  suits : ∀ o, op = some o → c.suits o
  request : ∀ r, asked = some r → c.reserving = true ∧ c.suits (.reservation r.limit r.retry)
  writing : ∀ limit retry, op = some (.reservation limit retry) → c.reserving = true ∧ asked = none
  alone : ∀ base limit, op = some (.setCounter base limit) → c.reserving = false ∧ asked = none
  setting : c.setting = true → ∃ base limit, op = some (.setCounter base limit)
  reserving : c.reserving = true → asked.isSome = true ∨ ∃ limit retry, op = some (.reservation limit retry)

def State.Counts (s : State) : Prop :=
  CounterRule s.counter s.array.counter (s.engine.active.map (·.op)) s.engine.counterRequest

theorem counterLaw_iff (s : State) : CounterLaw s ↔ EngineLaw s ∧ s.Counts := by
  have hop : ∀ {o : Operation}, s.engine.active.map (·.op) = some o ↔ ∃ a, s.engine.active = some a ∧ a.op = o :=
    Option.map_eq_some_iff
  constructor
  · intro h
    refine ⟨h.engine, h.running, h.exhausted, h.record, fun o ho => ?_, h.request, fun limit retry ho => ?_,
      fun base limit ho => ?_, fun hs => ?_, fun hr => ?_⟩
    · obtain ⟨a, ha, rfl⟩ := hop.mp ho
      exact h.suits a ha
    · obtain ⟨a, ha, hao⟩ := hop.mp ho
      exact h.writing a limit retry ha hao
    · obtain ⟨a, ha, hao⟩ := hop.mp ho
      exact h.alone a base limit ha hao
    · obtain ⟨a, base, limit, ha⟩ := h.setting hs
      exact ⟨base, limit, hop.mpr ⟨a, ha⟩⟩
    · refine (h.reserving hr).imp id fun ⟨a, limit, retry, ha⟩ => ⟨limit, retry, hop.mpr ⟨a, ha⟩⟩
  · rintro ⟨he, h⟩
    refine ⟨he, h.running, h.exhausted, h.record, fun a ha => h.suits _ (hop.mpr ⟨a, ha, rfl⟩), h.request,
      fun a limit retry ha hao => h.writing limit retry (hop.mpr ⟨a, ha, hao⟩),
      fun a base limit ha hao => h.alone base limit (hop.mpr ⟨a, ha, hao⟩), fun hs => ?_, fun hr => ?_⟩
    · obtain ⟨base, limit, ho⟩ := h.setting hs
      obtain ⟨a, ha⟩ := hop.mp ho
      exact ⟨a, base, limit, ha⟩
    · refine (h.reserving hr).imp id fun ⟨limit, retry, ho⟩ => ?_
      obtain ⟨a, ha⟩ := hop.mp ho
      exact ⟨a, limit, retry, ha⟩

/-- An operation that writes the counter record. -/
def Operation.writesCounter : Operation → Bool
  | .reservation _ _ => true
  | .setCounter _ _ => true
  | _ => false

/-- No operation in progress writes the counter record. -/
def Plain (op : Option Operation) : Prop := ∀ o, op = some o → o.writesCounter = false

theorem plain_none : Plain none := fun _ h => (nomatch h)

theorem plain_some {o : Operation} (h : o.writesCounter = false) : Plain (some o) := fun _ h' => Option.some.inj h' ▸ h

theorem Operation.suits_of_plain (o : Operation) (c : Counter) (h : o.writesCounter = false) : c.suits o := by
  cases o with
  | reservation | setCounter => cases h
  | _ => trivial

section
variable {c : Counter} {record : NvRecord Nat} {op op' : Option Operation} {asked : Option CounterRequest}
  (h : CounterRule c record op asked)
include h

/-- Operations that write other records come and go. -/
theorem CounterRule.plain (hop : Plain op) (hop' : Plain op') : CounterRule c record op' asked where
  running := h.running
  exhausted := h.exhausted
  record := h.record
  suits o ho := by
    have hplain := hop' o ho
    exact o.suits_of_plain c hplain
  request := h.request
  writing limit retry ho := Bool.noConfusion (hop' _ ho)
  alone base limit ho := Bool.noConfusion (hop' _ ho)
  setting hs := by
    obtain ⟨base, limit, ho⟩ := h.setting hs
    exact Bool.noConfusion (hop _ ho)
  reserving hr := by
    rcases h.reserving hr with ha | ⟨limit, retry, ho⟩
    · exact .inl ha
    · exact Bool.noConfusion (hop _ ho)

/-- Without a reservation and without a SET_COUNTER in progress no operation writes the counter record. -/
theorem CounterRule.plain_of_free (hr : c.reserving = false) (hs : c.setting = false) : Plain op := by
  intro o ho
  cases o with
  | reservation limit retry =>
    have hw := (h.writing limit retry ho).1
    rw [hr] at hw; cases hw
  | setCounter base limit =>
    obtain ⟨-, -, -, hset⟩ := h.suits _ ho
    rw [hs] at hset; cases hset
  | _ => rfl

theorem CounterRule.not_asked (hr : c.reserving = false) : asked = none := by
  cases asked with
  | none => rfl
  | some r =>
    have ha := (h.request r rfl).1
    rw [hr] at ha; cases ha

/-- A reservation is requested (R117). -/
theorem CounterRule.ask (hst : c.state = .running) (hr : c.reserving = false) (hs : c.setting = false)
    (hroom : c.limit < 4294967295 ∨ c.limit ≤ c.next) : CounterRule { c with reserving := true } record op
      (some { limit := min (c.limit + Config.reserveStep) Config.counterTop, retry := false }) := by
  have htop : Config.counterTop = 4294967295 := rfl
  have hstep : Config.reserveStep = 4096 := rfl
  have hplain := h.plain_of_free hr hs
  obtain ⟨hle, hlt, hlimit, hgood⟩ := h.running hst
  refine ⟨fun _ => ⟨hle, hlt, hlimit, hgood⟩, fun he => ?_, h.record, fun o ho => ?_, fun r hask => ?_,
    fun limit retry ho => Bool.noConfusion (hplain _ ho), fun base limit ho => Bool.noConfusion (hplain _ ho),
    fun hset => ?_, fun _ => .inl rfl⟩
  · rw [show ({ c with reserving := true } : Counter).state = c.state from rfl, hst] at he; cases he
  · exact o.suits_of_plain _ (hplain o ho)
  · rw [← Option.some.inj hask]
    exact ⟨rfl, hst, (by omega : c.limit < min (c.limit + Config.reserveStep) Config.counterTop), Nat.min_le_right .., hs⟩
  · rw [show ({ c with reserving := true } : Counter).setting = c.setting from rfl, hs] at hset; cases hset

/-- A number is issued and more may follow (R116). -/
theorem CounterRule.issue (hst : c.state = .running) (hs : c.setting = false) (hroom : c.next < c.limit)
    (hlast : ¬(c.next + 1 = 4294967295 ∧ c.next + 1 = c.limit)) :
    CounterRule { c with next := c.next + 1 } record op asked := by
  have htop : Config.counterTop = 4294967295 := rfl
  obtain ⟨hle, hlt, hlimit, hgood⟩ := h.running hst
  refine ⟨fun _ => ⟨hroom, ?_, hlimit, hgood⟩, fun he => ?_, h.record, fun o ho => ?_, h.request, h.writing, h.alone, h.setting,
    h.reserving⟩
  · have hbelow : c.next + 1 < Config.counterTop := by omega
    exact hbelow
  · rw [show ({ c with next := c.next + 1 } : Counter).state = c.state from rfl, hst] at he; cases he
  · have hsuits := h.suits o ho
    cases o with
    | setCounter base limit =>
      obtain ⟨-, -, -, hset⟩ := hsuits
      rw [hs] at hset; cases hset
    | _ => exact hsuits

/-- The last number is issued (R116). -/
theorem CounterRule.issueLast (hst : c.state = .running) (hs : c.setting = false) (hnext : c.next + 1 = 4294967295)
    (hlimit : c.next + 1 = c.limit) :
    CounterRule { c with next := c.next + 1, state := .exhausted } record op asked := by
  have htop : Config.counterTop = 4294967295 := rfl
  obtain ⟨-, -, -, hgood⟩ := h.running hst
  have hfull : ∀ limit retry, ¬c.suits (.reservation limit retry) := by
    rintro limit retry ⟨-, hlt, hle, -⟩
    omega
  have hnone : ∀ r, asked ≠ some r := fun r hr => hfull _ _ (h.request r hr).2
  have hop : ∀ limit retry, op ≠ some (.reservation limit retry) := fun limit retry ho => hfull _ _ (h.suits _ ho)
  refine ⟨fun he => CounterState.noConfusion he, fun _ => ⟨by rw [htop]; exact hnext, by rw [htop]; exact hlimit ▸ hnext, hgood⟩,
    h.record, fun o ho => ?_, fun r hr => absurd hr (hnone r), fun limit retry ho => absurd ho (hop _ _), h.alone, h.setting,
    h.reserving⟩
  have hsuits := h.suits o ho
  cases o with
  | setCounter base limit =>
    obtain ⟨-, -, -, hset⟩ := hsuits
    rw [hs] at hset; cases hset
  | reservation limit retry => exact absurd hsuits (hfull _ _)
  | _ => trivial

end

section
variable {c : Counter} {record : NvRecord Nat} {asked : Option CounterRequest}

/-- What the law says of a reservation that is being written. -/
theorem CounterRule.of_reservation {limit : Nat} {retry : Bool}
    (h : CounterRule c record (some (.reservation limit retry)) asked) :
    (c.state = .running ∧ c.limit < limit ∧ limit ≤ Config.counterTop ∧ c.setting = false) ∧ c.reserving = true ∧
      asked = none := ⟨h.suits _ rfl, h.writing _ _ rfl⟩

/-- What the law says of a SET_COUNTER that is being written. -/
theorem CounterRule.of_setCounter {base limit : Nat} (h : CounterRule c record (some (.setCounter base limit)) asked) :
    ((c.state ≠ .unset → c.next ≤ base) ∧ base ≤ limit ∧ limit ≤ Config.counterTop ∧ c.setting = true) ∧
      c.reserving = false ∧ asked = none := ⟨h.suits _ rfl, h.alone _ _ rfl⟩

/-- A counter that stands at its numbers with nothing in progress. -/
theorem counterRule_idle (hs : c.setting = false) (hr : c.reserving = false)
    (hrunning : c.state = .running → c.next ≤ c.limit ∧ c.next < Config.counterTop)
    (hexhausted : c.state = .exhausted → c.next = Config.counterTop ∧ c.limit = Config.counterTop)
    (hlimit : c.state = .running → c.limit ≤ Config.counterTop) (hrecord : ∀ v, record = .good v → v ≤ Config.counterTop)
    (hgood : c.state ≠ .unset → ∀ v, record = .good v → v = c.limit) : CounterRule c record none none := by
  refine ⟨fun h => ⟨(hrunning h).1, (hrunning h).2, hlimit h, hgood (by rw [h]; decide)⟩,
    fun h => ⟨(hexhausted h).1, (hexhausted h).2, hgood (by rw [h]; decide)⟩, hrecord, fun _ ho => (nomatch ho),
    fun _ ho => (nomatch ho), fun _ _ ho => (nomatch ho), fun _ _ ho => (nomatch ho),
    fun h => ?_, fun h => ?_⟩
  · rw [hs] at h; cases h
  · rw [hr] at h; cases h

theorem CounterRule.reserved {limit : Nat} {retry : Bool}
    (h : CounterRule c record (some (.reservation limit retry)) asked) :
    CounterRule { c with limit := limit, reserving := false } (.good limit) none asked := by
  obtain ⟨⟨hst, hlt, htop, hs⟩, -, rfl⟩ := h.of_reservation
  obtain ⟨hle, hnext, -⟩ := h.running hst
  have hgood : ∀ v, NvRecord.good limit = .good v → v = limit := fun v hv => (NvRecord.good.inj hv).symm
  have hexhausted : c.state ≠ .exhausted := by rw [hst]; decide
  exact counterRule_idle hs rfl (fun _ => ⟨(by omega : c.next ≤ limit), hnext⟩) (fun he => absurd he hexhausted) (fun _ => htop)
    (fun v hv => hgood v hv ▸ htop) fun _ => hgood

theorem CounterRule.reserveAgain {limit : Nat} {retry : Bool}
    (h : CounterRule c record (some (.reservation limit retry)) asked) :
    CounterRule c .damaged none (some { limit := limit, retry := true }) := by
  obtain ⟨hsuits, hr, rfl⟩ := h.of_reservation
  have ⟨hst, _, _, hs⟩ := hsuits
  obtain ⟨hle, hnext, hlimit, -⟩ := h.running hst
  refine ⟨fun _ => ⟨hle, hnext, hlimit, fun _ hv => (nomatch hv)⟩, fun he => ?_, fun _ hv => (nomatch hv),
    fun _ ho => (nomatch ho), fun r hask => ?_, fun _ _ ho => (nomatch ho),
    fun _ _ ho => (nomatch ho), fun hset => ?_, fun _ => .inl rfl⟩
  · rw [hst] at he; cases he
  · cases hask; exact ⟨hr, hsuits⟩
  · rw [hs] at hset; cases hset

theorem CounterRule.reserveGivenUp {limit : Nat} {retry : Bool}
    (h : CounterRule c record (some (.reservation limit retry)) asked) :
    CounterRule { c with reserving := false } .damaged none asked := by
  obtain ⟨⟨hst, -, -, hs⟩, -, rfl⟩ := h.of_reservation
  obtain ⟨hle, hnext, hlimit, -⟩ := h.running hst
  have hexhausted : c.state ≠ .exhausted := by rw [hst]; decide
  exact counterRule_idle hs rfl (fun _ => ⟨hle, hnext⟩) (fun he => absurd he hexhausted) (fun _ => hlimit)
    (fun _ hv => (nomatch hv)) fun _ _ hv => (nomatch hv)

theorem CounterRule.counterKept {base limit : Nat} (h : CounterRule c record (some (.setCounter base limit)) asked) :
    CounterRule { c with setting := false } .damaged none asked := by
  obtain ⟨-, hr, rfl⟩ := h.of_setCounter
  refine counterRule_idle rfl hr (fun hst => ?_) (fun hst => ?_) (fun hst => (h.running hst).2.2.1)
    (fun _ hv => (nomatch hv)) fun _ _ hv => (nomatch hv)
  · exact ⟨(h.running hst).1, (h.running hst).2.1⟩
  · exact ⟨(h.exhausted hst).1, (h.exhausted hst).2.1⟩

/-- A SET_COUNTER is done (R123). -/
theorem CounterRule.counterSet {base limit : Nat} (h : CounterRule c record (some (.setCounter base limit)) asked) :
    (base = Config.counterTop →
      CounterRule { c with state := .exhausted, next := base, limit := limit, setting := false } (.good limit) none asked) ∧
    (base ≠ Config.counterTop →
      CounterRule { c with state := .running, next := base, limit := limit, setting := false } (.good limit) none asked) := by
  obtain ⟨⟨-, hle, htop, -⟩, hr, rfl⟩ := h.of_setCounter
  have hrecord : ∀ v, NvRecord.good limit = .good v → v ≤ Config.counterTop := fun v hv => NvRecord.good.inj hv ▸ htop
  refine ⟨fun hbase => counterRule_idle rfl hr (fun hst => CounterState.noConfusion hst)
      (fun _ => ⟨hbase, Nat.le_antisymm htop (hbase ▸ hle)⟩) (fun hst => CounterState.noConfusion hst) hrecord
      fun _ v hv => (NvRecord.good.inj hv).symm,
    fun hbase => counterRule_idle rfl hr (fun _ => ⟨hle, Nat.lt_of_le_of_ne (Nat.le_trans hle htop) hbase⟩)
      (fun hst => CounterState.noConfusion hst) (fun _ => htop) hrecord fun _ v hv => (NvRecord.good.inj hv).symm⟩

/-- An outstanding reservation begins to be written (R152). -/
theorem CounterRule.reservation {r : CounterRequest} (h : CounterRule c record none (some r)) :
    CounterRule c record (some (.reservation r.limit r.retry)) none := by
  obtain ⟨hr, hsuits⟩ := h.request r rfl
  have hs := hsuits.2.2.2
  refine ⟨h.running, h.exhausted, h.record, fun o ho => Option.some.inj ho ▸ hsuits, fun _ ho => (nomatch ho),
    fun _ _ _ => ⟨hr, rfl⟩, fun _ _ ho => (nomatch ho), fun hset => ?_, fun _ => .inr ⟨_, _, rfl⟩⟩
  rw [hs] at hset; cases hset

/-- A SET_COUNTER begins to be written (R121). -/
theorem CounterRule.setCounter {base limit : Nat} (h : CounterRule c record none none)
    (hbase : c.state ≠ .unset → c.next ≤ base) (hle : base ≤ limit) (htop : limit ≤ 4294967295) :
    CounterRule { c with setting := true } record (some (.setCounter base limit)) none := by
  have hr : c.reserving = false := by
    rw [← Bool.not_eq_true]
    intro hr
    rcases h.reserving hr with hask | ⟨_, _, ho⟩
    · cases hask
    · cases ho
  refine ⟨h.running, h.exhausted, h.record, fun o ho => Option.some.inj ho ▸ ⟨hbase, hle, htop, rfl⟩,
    fun _ ho => (nomatch ho), fun _ _ ho => (nomatch ho), fun _ _ _ => ⟨hr, rfl⟩,
    fun _ => ⟨base, limit, rfl⟩, fun hres => ?_⟩
  rw [show ({ c with setting := true } : Counter).reserving = c.reserving from rfl, hr] at hres; cases hres

end

/-! ### Every move -/

/-- The counter, its record and the outstanding reservation are the same. -/
structure SameCounter (s t : State) : Prop where
  counter : t.counter = s.counter
  record : t.array.counter = s.array.counter
  request : t.engine.counterRequest = s.engine.counterRequest

theorem SameCounter.trans {s t u : State} (h : SameCounter s t) (h' : SameCounter t u) : SameCounter s u :=
  ⟨h'.counter.trans h.counter, h'.record.trans h.record, h'.request.trans h.request⟩

theorem Alike.sameCounter {s t : State} (h : Alike s t) : SameCounter s t := ⟨h.counter, h.counterRecord, h.counterRequest⟩

theorem sameCounter_alignmentCheck (s : State) : SameCounter s s.alignmentCheck := by
  rw [s.alignmentCheck_frame]
  exact ⟨rfl, rfl, rfl⟩

theorem sameCounter_retireSlots (s : State) (p : SlotIx → Bool) : SameCounter s (s.retireSlots p) := by
  rw [s.retireSlots_frame]
  exact ⟨rfl, rfl, rfl⟩

theorem sameCounter_endOp (s : State) : SameCounter s s.endOp := ⟨rfl, rfl, rfl⟩

theorem sameCounter_startOp (s : State) (op : Operation) (time : Nat) : SameCounter s (s.startOp op time) := ⟨rfl, rfl, rfl⟩

theorem sameCounter_beginErase (s : State) (op : SlotOp) : SameCounter s (s.beginErase op) := by
  unfold State.beginErase
  refine SameCounter.trans ?_ (alike_settleRetry _).sameCounter
  constructor <;> simp

theorem sameCounter_advance (s : State) : SameCounter s s.advance := by
  have hstep : SameCounter s s.stepped := ⟨rfl, rfl, rfl⟩
  exact (hstep.trans (sameCounter_alignmentCheck _)).trans (alike_advance s).sameCounter

theorem sameCounter_window (r : Settings) (s : State) : SameCounter s (applyWindow r (s.putSettings (.good r))).endOp := by
  have hset : SameCounter s ((s.putSettings (.good r)).bounded r.back r.ahead) := ⟨rfl, rfl, rfl⟩
  have hcheck := hset.trans (sameCounter_alignmentCheck _)
  have htrim : SameCounter s ((s.putSettings (.good r)).bounded r.back r.ahead).alignmentCheck.trimCache :=
    ⟨hcheck.counter, hcheck.record, hcheck.request⟩
  exact (htrim.trans (alike_applyWindow r (s.putSettings (.good r))).sameCounter).trans (sameCounter_endOp _)

theorem sameCounter_geometry (c0 : Gen) (r : Settings) (s : State) :
    SameCounter s (applyGeometry c0 r (s.putSettings (.good r))).endOp := by
  have hcloses : SameCounter s ((State.rebuilt c0 r (s.putSettings (.good r))).closes fun _ _ _ => true) := ⟨rfl, rfl, rfl⟩
  exact (hcloses.trans (alike_applyGeometry c0 r (s.putSettings (.good r))).sameCounter).trans (sameCounter_endOp _)

theorem sameCounter_current (c : Gen) (h : Nat) (s : State) : SameCounter s (applyCurrent c h s).endOp := by
  have hset : SameCounter s (s.placed c h) := ⟨rfl, rfl, rfl⟩
  exact ((hset.trans (sameCounter_alignmentCheck _)).trans (alike_applyCurrent c h s).sameCounter).trans (sameCounter_endOp _)

theorem SameCounter.counts {s t : State} (h : SameCounter s t) (hs : s.Counts)
    (hop : t.engine.active.map (·.op) = s.engine.active.map (·.op) ∨
      Plain (s.engine.active.map (·.op)) ∧ Plain (t.engine.active.map (·.op))) : t.Counts := by
  unfold State.Counts
  rw [h.counter, h.record, h.request]
  rcases hop with hop | ⟨hop, hop'⟩
  · rw [hop]; exact hs
  · exact hs.plain hop hop'

theorem SameCounter.ended {s t : State} (h : SameCounter s t) (hs : s.Counts) {o : Operation}
    (hop : s.engine.active.map (·.op) = some o) (ho : o.writesCounter = false) (ht : t.engine.active = none) : t.Counts :=
  h.counts hs (.inr ⟨hop ▸ plain_some ho, ht ▸ plain_none⟩)

theorem SameCounter.began {s t : State} (h : SameCounter s t) (hs : s.Counts) {o : Operation}
    (hop : s.engine.active = none) (ht : t.engine.active.map (·.op) = some o) (ho : o.writesCounter = false) : t.Counts :=
  h.counts hs (.inr ⟨hop ▸ plain_none, ht ▸ plain_some ho⟩)

/-- The counter that a start-up takes from the record (R124). -/
theorem counterRule_atStart {record : NvRecord Nat} (h : ∀ v, record = .good v → v ≤ Config.counterTop) :
    CounterRule (counterAtStart record) record none none := by
  cases record with
  | good limit =>
    have htop := h limit rfl
    have hgood : ∀ v, NvRecord.good limit = .good v → v = limit := fun v hv => (NvRecord.good.inj hv).symm
    unfold counterAtStart
    dsimp only
    split
    · rename_i he
      exact counterRule_idle rfl rfl (fun h => CounterState.noConfusion h) (fun _ => ⟨he, he⟩)
        (fun h => CounterState.noConfusion h) (fun v hv => hgood v hv ▸ htop) fun _ => hgood
    · rename_i hne
      exact counterRule_idle rfl rfl (fun _ => ⟨Nat.le_refl limit, Nat.lt_of_le_of_ne htop hne⟩) (fun h => CounterState.noConfusion h)
        (fun _ => htop) (fun v hv => hgood v hv ▸ htop) fun _ => hgood
  | erased | damaged =>
    exact counterRule_idle rfl rfl (fun h => CounterState.noConfusion h) (fun h => CounterState.noConfusion h)
      (fun h => CounterState.noConfusion h) h fun h => absurd rfl h

theorem State.Counts.examineLowWater {s : State} (hs : s.Counts) : s.examineLowWater.Counts := by
  refine State.examineLowWater_cases s State.Counts (fun hlow => ?_) fun _ => hs
  simp only [Counter.lowWater, Bool.and_eq_true, beq_iff_eq, decide_eq_true_eq, Bool.not_eq_true'] at hlow
  obtain ⟨⟨⟨⟨hst, -⟩, hroom⟩, hr⟩, hset⟩ := hlow
  exact CounterRule.ask hs hst hr hset (.inl hroom)

theorem State.Counts.startUp {s : State} (soft : Bool) (h : ∀ v, s.array.counter = .good v → v ≤ Config.counterTop) :
    (s.startUp soft).Counts := by
  unfold State.startUp
  extract_lets set ring counter slots base
  have hbase : base.Counts := counterRule_atStart h
  have hcheck : base.alignmentCheck.Counts :=
    (sameCounter_alignmentCheck base).counts hbase (.inl (by rw [State.alignmentCheck_engine]))
  exact hcheck.examineLowWater

theorem State.abandonActive_counterRecord (s : State) :
    s.abandonActive.array.counter = s.array.counter ∨ s.abandonActive.array.counter = .damaged := by
  unfold State.abandonActive
  cases h : s.engine.active with
  | none => exact .inl rfl
  | some a =>
    obtain ⟨op, left⟩ := a
    cases op with
    | settings c r =>
      cases c with
      | lock a => cases a <;> exact .inl rfl
      | _ => exact .inl rfl
    | retireMarks slots retry => exact .inl (by simp [State.scatterMarks])
    | setCounter | reservation => exact .inr rfl
    | _ => exact .inl rfl

theorem abandonActive_counterRecord_le {s : State} (h : ∀ v, s.array.counter = .good v → v ≤ Config.counterTop) :
    ∀ v, s.abandonActive.array.counter = .good v → v ≤ Config.counterTop := by
  intro v hv
  rcases s.abandonActive_counterRecord with he | he
  · exact h v (he ▸ hv)
  · rw [he] at hv; cases hv

theorem State.Counts.move {k : MoveKind} {s t : State} (m : Move True k s t) (he : EngineLaw s) (hs : s.Counts) : t.Counts := by
  have hreservation : ∀ {limit retry}, s.engine.active.map (·.op) = some (.reservation limit retry) →
      CounterRule s.counter s.array.counter (some (.reservation limit retry)) s.engine.counterRequest := fun h => h ▸ hs
  have hsetCounter : ∀ {base limit}, s.engine.active.map (·.op) = some (.setCounter base limit) →
      CounterRule s.counter s.array.counter (some (.setCounter base limit)) s.engine.counterRequest := fun h => h ▸ hs
  cases m with
  | alike h => exact h.sameCounter.counts hs (.inl h.active)
  | ask hst hr hset hroom => exact CounterRule.ask hs hst hr hset hroom
  | issue hst hset hroom hlast => exact CounterRule.issue hs hst hset hroom hlast
  | issueLast hst hset hnext hlimit => exact CounterRule.issueLast hs hst hset hnext hlimit
  | reserved limit retry ha => exact (hreservation ha).reserved
  | reserveAgain limit ha => exact (hreservation ha).reserveAgain
  | reserveGivenUp limit ha => exact (hreservation ha).reserveGivenUp
  | counterKept base limit ha => exact (hsetCounter ha).counterKept
  | counterSet base limit ha =>
    unfold applyCounter
    split
    · exact (hsetCounter ha).counterSet.1 ‹_›
    · exact (hsetCounter ha).counterSet.2 ‹_›
  | reservation r time _ ha hr =>
    unfold State.Counts at hs
    rw [ha, hr] at hs
    exact hs.reservation
  | setCounter base limit time hf hr hbase hle htop =>
    unfold State.Counts at hs
    rw [hf.2.1, hr] at hs
    have hnew := hs.setCounter hbase hle htop
    rw [← hr] at hnew
    exact hnew
  | load l _ ha _ _ _ _ => exact (sameCounter_startOp ..).began hs ha rfl rfl
  | genRecord c h retry time _ ha => exact (sameCounter_startOp ..).began hs ha rfl rfl
  | retireMarks taken retry time _ ha => exact (sameCounter_startOp ..).began hs ha rfl rfl
  | settings c r time hf _ _ _ => exact (sameCounter_startOp ..).began hs hf.2.1 rfl rfl
  | setCurrent i g time hf _ _ => exact (sameCounter_startOp ..).began hs hf.2.1 rfl rfl
  | resume x _ ha _ => exact SameCounter.began (s := s) ⟨rfl, rfl, rfl⟩ hs ha rfl rfl
  | erase op time hf _ _ =>
    exact ((sameCounter_beginErase s op).trans (sameCounter_startOp ..)).began hs hf.2.1 rfl rfl
  | dropLoad load ha => exact SameCounter.ended (s := s) ⟨rfl, rfl, rfl⟩ hs ha rfl rfl
  | dropUnwrap w load kx hw ht =>
    exact SameCounter.ended (s := s) ⟨rfl, rfl, rfl⟩ hs (he.rule.unwraps load kx (by rw [hw, ← ht]; rfl)) rfl rfl
  | program w load kx key hw ht =>
    have ha : Plain (s.engine.active.map (·.op)) :=
      he.rule.unwraps load kx (by rw [hw, ← ht]; rfl) ▸ plain_some rfl
    refine SameCounter.counts (s := s) ?_ hs (.inr ⟨ha, plain_some (o := .slotOp (.program load.slot)) rfl⟩)
    constructor <;> simp [State.beginProgram, State.endWork]
  | programFailed i ha => exact SameCounter.ended (s := s) (by constructor <;> simp) hs ha rfl rfl
  | programLoaded i ha _ => exact SameCounter.ended (s := s) (by constructor <;> simp) hs ha rfl rfl
  | erased op failed ha _ => exact SameCounter.ended (s := s) (by constructor <;> simp) hs ha rfl rfl
  | programStale i ha => exact ((sameCounter_retireSlots s _).trans (sameCounter_endOp _)).ended hs ha rfl rfl
  | retire i _ _ => exact (sameCounter_retireSlots s _).counts hs (.inl (by rw [State.retireSlots_engine]))
  | dropMarks taken => exact SameCounter.counts (s := s) (by constructor <;> simp [State.dropMarks]) hs (.inl (by simp [State.dropMarks]))
  | advance _ =>
    refine (sameCounter_advance s).counts hs (.inl ?_)
    rw [(alike_advance s).active, State.alignmentCheck_engine]
    rfl
  | windowSet r ha => exact (sameCounter_window r s).ended hs ha rfl rfl
  | geometrySet c0 r ha => exact (sameCounter_geometry c0 r s).ended hs ha rfl rfl
  | currentSet i c h ha => exact (sameCounter_current c h s).ended hs ha rfl rfl
  | lockSet a r ha => cases a <;> exact SameCounter.ended (s := s) ⟨rfl, rfl, rfl⟩ hs ha rfl rfl
  | settingsEnd c r kept ha _ => exact SameCounter.ended (s := s) ⟨rfl, rfl, rfl⟩ hs ha rfl rfl
  | recordEnds op ha hop =>
    have hplain : op.writesCounter = false := by
      rcases hop with ⟨_, _, _, rfl⟩ | ⟨_, _, rfl⟩ | ⟨_, _, _, rfl⟩ <;> rfl
    exact (sameCounter_endOp s).ended hs ha hplain rfl
  | hold who hh =>
    refine State.holdActive_cases s who State.Counts (fun op left ha => ?_) fun _ => hs
    exact SameCounter.ended (s := s) ⟨rfl, rfl, rfl⟩ hs (o := .slotOp op) (by rw [ha]; rfl) rfl rfl
  | deliver w l r _ _ =>
    unfold State.deliver
    split <;> exact hs
  | startUp | rstReleases => exact State.Counts.startUp false hs.record
  | softReset => exact State.Counts.startUp true (abandonActive_counterRecord_le hs.record)
  | lose power rst _ =>
    exact counterRule_idle rfl rfl (fun h => CounterState.noConfusion h) (fun h => CounterState.noConfusion h)
      (fun h => CounterState.noConfusion h) (abandonActive_counterRecord_le hs.record) fun h => absurd rfl h
  | _ => exact hs

theorem CounterLaw.move {k : MoveKind} {s t : State} (m : Move True k s t) (hs : CounterLaw s) : CounterLaw t := by
  rw [counterLaw_iff] at hs ⊢
  exact ⟨hs.1.move m, State.Counts.move m hs.1 hs.2⟩

/-! ### The lowest number that may still be issued -/

theorem SameCounter.numberFloor {s t : State} (h : SameCounter s t) : t.numberFloor = s.numberFloor := by
  unfold State.numberFloor
  rw [h.counter, h.record]

/-- The lowest number that may still be issued stays or rises, or none can be issued. -/
def FloorKept (s t : State) : Prop :=
  t.numberFloor = none ∨ ∃ n m, s.numberFloor = some n ∧ t.numberFloor = some m ∧ n ≤ m

theorem floorKept_of_eq {s t : State} (h : t.numberFloor = s.numberFloor) : FloorKept s t := by
  cases hs : s.numberFloor with
  | none => exact .inl (h.trans hs)
  | some n => exact .inr ⟨n, n, hs, h.trans hs, Nat.le_refl n⟩

theorem numberFloor_of_set {s : State} (h : s.counter.state ≠ .unset) : s.numberFloor = some s.counter.next := if_neg h

theorem floorKept_of_next {s t : State} (hs : s.counter.state ≠ .unset) (ht : t.counter.state ≠ .unset)
    (h : s.counter.next ≤ t.counter.next) : FloorKept s t :=
  .inr ⟨_, _, numberFloor_of_set hs, numberFloor_of_set ht, h⟩

/-- A good record holds no number below one that may still be issued (R115). -/
theorem State.Counts.floor_le {s : State} (hs : s.Counts) {v : Nat} (hv : s.array.counter = .good v) :
    ∃ n, s.numberFloor = some n ∧ n ≤ v := by
  cases hst : s.counter.state with
  | unset => exact ⟨v, by rw [State.numberFloor, if_pos hst, hv], Nat.le_refl v⟩
  | running =>
    obtain ⟨hle, -, -, hgood⟩ := hs.running hst
    exact ⟨_, numberFloor_of_set (by rw [hst]; decide), hgood v hv ▸ hle⟩
  | exhausted =>
    obtain ⟨hnext, hlimit, hgood⟩ := hs.exhausted hst
    exact ⟨_, numberFloor_of_set (by rw [hst]; decide), Nat.le_of_eq (by rw [hgood v hv, hnext, hlimit])⟩

theorem counterAtStart_good (v : Nat) : (counterAtStart (.good v)).state ≠ .unset ∧ (counterAtStart (.good v)).next = v := by
  unfold counterAtStart
  dsimp only
  split
  · exact ⟨CounterState.noConfusion, rfl⟩
  · exact ⟨CounterState.noConfusion, rfl⟩

/-- The number at which a start-up resumes: the limit of a good record (R124). -/
def NvRecord.floor : NvRecord Nat → Option Nat
  | .good v => some v
  | _ => none

theorem numberFloor_of_unset {s : State} (h : s.counter.state = .unset) : s.numberFloor = s.array.counter.floor := by
  unfold State.numberFloor
  rw [if_pos h]
  rfl

theorem State.startUp_floor (s : State) (soft : Bool) : (s.startUp soft).numberFloor = s.array.counter.floor := by
  unfold State.startUp
  extract_lets set ring counter slots base
  have hlow : ∀ u : State, u.examineLowWater.numberFloor = u.numberFloor := fun u =>
    State.examineLowWater_cases u (fun t => t.numberFloor = u.numberFloor) (fun _ => rfl) fun _ => rfl
  rw [hlow, (sameCounter_alignmentCheck base).numberFloor]
  have hcounter : base.counter = counterAtStart s.array.counter := rfl
  have hrecord : base.array.counter = s.array.counter := rfl
  cases hr : s.array.counter with
  | good v =>
    obtain ⟨hst, hnext⟩ := counterAtStart_good v
    rw [hr] at hcounter
    rw [numberFloor_of_set (hcounter ▸ hst), hcounter, hnext]
    rfl
  | erased | damaged => rw [numberFloor_of_unset (by rw [hcounter, hr]; rfl), hrecord, hr]

/-- What is left after a loss of power or a reset: a good record, of the part before, or none. -/
theorem State.Counts.floorKept_of_record {s t : State} (hs : s.Counts)
    (ht : t.numberFloor = none ∨ ∃ v, s.array.counter = .good v ∧ t.numberFloor = some v) : FloorKept s t := by
  rcases ht with h | ⟨v, hv, h⟩
  · exact .inl h
  · obtain ⟨n, hn, hle⟩ := hs.floor_le hv
    exact .inr ⟨n, v, hn, h, hle⟩

theorem NvRecord.floor_cases {r r' : NvRecord Nat} (h : r' = r ∨ r' = .damaged) :
    r'.floor = none ∨ ∃ v, r = .good v ∧ r'.floor = some v := by
  rcases h with rfl | rfl
  · cases r' with
    | good v => exact .inr ⟨v, rfl, rfl⟩
    | erased | damaged => exact .inl rfl
  · exact .inl rfl

theorem Move.floor {k : MoveKind} {s t : State} (m : Move True k s t) (hk : k ≠ .counterSet) (hs : s.Counts) :
    FloorKept s t := by
  have hrunning : ∀ {limit retry}, s.engine.active.map (·.op) = some (.reservation limit retry) → s.counter.state ≠ .unset := by
    intro limit retry ha
    have hsuits : s.counter.state = .running := (hs.suits _ ha).1
    rw [hsuits]
    decide
  cases m with
  | alike h => exact floorKept_of_eq h.sameCounter.numberFloor
  | issue hst _ _ _ =>
    have hset : s.counter.state ≠ .unset := by rw [hst]; decide
    exact floorKept_of_next hset hset (Nat.le_succ _)
  | issueLast hst _ _ _ => exact floorKept_of_next (by rw [hst]; decide) CounterState.noConfusion (Nat.le_succ _)
  | reserved limit retry ha => exact floorKept_of_next (hrunning ha) (hrunning ha) (Nat.le_refl _)
  | reserveAgain limit ha => exact floorKept_of_next (hrunning ha) (hrunning ha) (Nat.le_refl _)
  | reserveGivenUp limit ha => exact floorKept_of_next (hrunning ha) (hrunning ha) (Nat.le_refl _)
  | counterSet | counterKept => exact absurd rfl hk
  | program w load kx key hw ht =>
    exact floorKept_of_eq (SameCounter.numberFloor (s := s) (by constructor <;> simp [State.beginProgram, State.endWork]))
  | programFailed | programLoaded | erased => exact floorKept_of_eq (SameCounter.numberFloor (s := s) (by constructor <;> simp))
  | dropMarks taken => exact floorKept_of_eq (SameCounter.numberFloor (s := s) (by constructor <;> simp [State.dropMarks]))
  | programStale i ha => exact floorKept_of_eq ((sameCounter_retireSlots s _).trans (sameCounter_endOp _)).numberFloor
  | retire i _ _ => exact floorKept_of_eq (sameCounter_retireSlots s _).numberFloor
  | erase op time _ _ _ => exact floorKept_of_eq ((sameCounter_beginErase s op).trans (sameCounter_startOp ..)).numberFloor
  | advance _ => exact floorKept_of_eq (sameCounter_advance s).numberFloor
  | windowSet r ha => exact floorKept_of_eq (sameCounter_window r s).numberFloor
  | geometrySet c0 r ha => exact floorKept_of_eq (sameCounter_geometry c0 r s).numberFloor
  | currentSet i c h ha => exact floorKept_of_eq (sameCounter_current c h s).numberFloor
  | lockSet a r ha => cases a <;> exact floorKept_of_eq rfl
  | hold who hh =>
    exact floorKept_of_eq (State.holdActive_cases s who (fun t => t.numberFloor = s.numberFloor) (fun _ _ _ => rfl) fun _ => rfl)
  | deliver w l r _ _ =>
    unfold State.deliver
    split <;> exact floorKept_of_eq rfl
  | startUp | rstReleases =>
    refine hs.floorKept_of_record ?_
    rw [State.startUp_floor]
    exact NvRecord.floor_cases (.inl rfl)
  | softReset =>
    refine hs.floorKept_of_record ?_
    rw [State.startUp_floor]
    exact NvRecord.floor_cases s.abandonActive_counterRecord
  | lose power rst _ =>
    refine hs.floorKept_of_record ?_
    rw [numberFloor_of_unset rfl]
    exact NvRecord.floor_cases s.abandonActive_counterRecord
  | _ => exact floorKept_of_eq rfl

/-- The law of the counter holds, and what may still be issued lies at `n` or above, or nothing may. -/
def FloorAtLeast (n : Nat) (s : State) : Prop :=
  CounterLaw s ∧ (s.numberFloor = none ∨ ∃ m, s.numberFloor = some m ∧ n ≤ m)

theorem FloorAtLeast.move {n : Nat} {k : MoveKind} {s t : State} (m : Move True k s t) (hk : k ≠ .counterSet)
    (h : FloorAtLeast n s) : FloorAtLeast n t := by
  obtain ⟨hs, hfloor⟩ := h
  refine ⟨hs.move m, ?_⟩
  rcases m.floor hk ((counterLaw_iff s).mp hs).2 with h | ⟨a, b, ha, hb, hab⟩
  · exact .inl h
  · rcases hfloor with hnone | ⟨c, hc, hnc⟩
    · rw [hnone] at ha; cases ha
    · rw [hc] at ha
      cases ha
      exact .inr ⟨b, hb, Nat.le_trans hnc hab⟩

/-- Settles O11: every move keeps the law of the counter, and every move but the completion of a SET_COUNTER keeps the floor of
the numbers that may still be issued. -/
theorem receiptNumbersNeverFall : Obligations.ReceiptNumbersNeverFall := by
  refine ⟨?kept, ?floor⟩
  case kept =>
    refine kept_of_moves True (fun _ _ hs => hs.engine.quiet) (fun s pending hs => ?_) fun _ _ _ m hs => hs.move m
    rw [counterLaw_iff] at hs ⊢
    exact ⟨hs.1.of_waiting pending, hs.2⟩
  case floor =>
    intro c s t n hs h hc hn
    have hkind : moveKind c ≠ .counterSet := by
      cases c with
      | setCounterComplete v => exact absurd rfl (hc v)
      | _ => exact MoveKind.noConfusion
    have hstart : FloorAtLeast n s := ⟨hs, .inr ⟨n, hn, Nat.le_refl n⟩⟩
    refine (exec_keeps (P := FloorAtLeast n) (Q := True) (fun _ => hs.engine.quiet) ?_ hstart h).2
    rintro k u v hk m hu
    refine hu.move m ?_
    rcases hk with rfl | rfl
    · decide
    · exact hkind

end Sys2Proof.Machine

/-! PROOFS. Frames and their examination (R174, R175, R180, R186). Every request of an assigned code is one examination with the
command's own parser and rule, so that what holds of the examination holds of all the commands at once. -/

namespace Sys2Proof.Machine

/-! ### Request frames read back -/

open Laws in
theorem fitsTheTable : ∀ c : Instr, FitsTheTable.Statement c
  | .sync p payload => FitsTheTable.sync p payload
  | .status p payload => FitsTheTable.status p payload
  | .setEvents p payload => FitsTheTable.setEvents p payload
  | .ackEvents p payload => FitsTheTable.ackEvents p payload
  | .submit l payload => FitsTheTable.submit l payload
  | .fetch l payload => FitsTheTable.fetch l payload
  | .permit payload => FitsTheTable.permit payload
  | .load payload => FitsTheTable.load payload
  | .eraseSlot payload => FitsTheTable.eraseSlot payload
  | .eraseBank payload => FitsTheTable.eraseBank payload
  | .retire payload => FitsTheTable.retire payload
  | .slotInfo payload => FitsTheTable.slotInfo payload
  | .suspend payload => FitsTheTable.suspend payload
  | .resume payload => FitsTheTable.resume payload
  | .advance payload => FitsTheTable.advance payload
  | .cancelRotation payload => FitsTheTable.cancelRotation payload
  | .setRotation payload => FitsTheTable.setRotation payload
  | .setWindow payload => FitsTheTable.setWindow payload
  | .setGeometry payload => FitsTheTable.setGeometry payload
  | .setCurrent payload => FitsTheTable.setCurrent payload
  | .setCounter payload => FitsTheTable.setCounter payload
  | .setSessionLife payload => FitsTheTable.setSessionLife payload
  | .setProtectVolatile payload => FitsTheTable.setProtectVolatile payload
  | .setProtectNv payload => FitsTheTable.setProtectNv payload
  | .lockArea payload => FitsTheTable.lockArea payload
  | .setFreeze payload => FitsTheTable.setFreeze payload
  | .setSite payload => FitsTheTable.setSite payload
  | .setLanes payload => FitsTheTable.setLanes payload
  | .setPortMonitor payload => FitsTheTable.setPortMonitor payload
  | .readCounts payload => FitsTheTable.readCounts payload
  | .clearCounts payload => FitsTheTable.clearCounts payload
  | .resetArm payload => FitsTheTable.resetArm payload
  | .reset payload => FitsTheTable.reset payload
  | .powerOn | .powerLoss | .rstAssert | .rstRelease | .softReset | .startupEnd | .wplChange _ | .frameError _ _ | .checkFail _
  | .unknownCommand _ _ | .jobLapse _ _ | .grant | .answerCompletion | .verifyCompletion | .sealCompletion | .unwrapCompletion
  | .sessionExpiry _ _ | .rotPulseEnd | .rotationTimerExpiry | .programComplete _ | .eraseComplete _ | .setRotationComplete _
  | .setWindowComplete _ | .setGeometryComplete _ | .setProtectNvComplete _ | .lockAreaComplete _ _ | .setFreezeComplete _
  | .setSiteComplete _ | .setLanesComplete _ | .setCurrentComplete _ | .setCounterComplete _ | .genRecordComplete _
  | .reservationComplete _ | .retireMarkComplete _ | .internalWriteStart | .arrayAtRest => FitsTheTable.noRequest rfl

/-- The check byte makes the sum of the bytes 0 modulo 256 (R174). -/
theorem sum_append_checkByte (bytes : List Byte) : (bytes ++ [checkByte bytes]).foldl (· + ·) 0 = (0 : Byte) := by
  rw [List.foldl_append, List.foldl_cons, List.foldl_nil, checkByte]
  change _ + (0#8 - _) = 0#8
  rw [BitVec.zero_sub, BitVec.add_right_neg]

theorem numByte_toNat {n : Nat} (h : n ≤ 64) : (numByte n).toNat = n := by
  have hlt : n < 2 ^ 8 := by omega
  rw [numByte, BitVec.toNat_ofNat, Nat.mod_eq_of_lt hlt]

/-- A request frame is read as the command that its port reads from its code and payload. -/
theorem receive_requestFrame {c : Instr} {p : Port} {code : Byte} {payload : List Byte} (hshort : payload.length ≤ 64)
    (hread : commandOf p code payload = some c) : receive p (requestFrame code payload) true = c := by
  have hlength := numByte_toNat hshort
  have hframe : requestFrame code payload =
      code :: numByte payload.length :: (payload ++ [checkByte ([code, numByte payload.length] ++ payload)]) := rfl
  have hsum : (requestFrame code payload).foldl (· + ·) 0 = 0 := sum_append_checkByte _
  rw [hframe] at hsum
  have hroom : ¬ Config.payloadMax < (numByte payload.length).toNat := by
    rw [hlength]
    exact Nat.not_lt.mpr hshort
  have htake : (payload ++ [checkByte ([code, numByte payload.length] ++ payload)]).take (payload.length + 1) =
      payload ++ [checkByte ([code, numByte payload.length] ++ payload)] := List.take_of_length_le (by simp)
  unfold receive
  rw [hframe]
  dsimp only
  rw [if_neg hroom, hlength, if_neg (by simp), htake, List.take_left, if_neg (not_not_intro hsum), hread]

/-- Settles O13: a request frame fits the table of its port, and the examination of the frame finds no fault in it. -/
theorem framesReadBack : Obligations.FramesReadBack := by
  intro c p code payload hrequest hwell
  obtain ⟨-, hshort, hread⟩ := fitsTheTable c hwell p code payload hrequest
  exact receive_requestFrame hshort hread

/-- Settles O14: the check byte closes every response frame, and the codes are those of the tables. -/
theorem responseFramesAreLaidOut : Obligations.ResponseFramesAreLaidOut := by
  refine ⟨fun r => ⟨sum_append_checkByte _, _, rfl⟩, ?codes, ⟨rfl, rfl, rfl⟩, ⟨rfl, rfl, rfl, rfl, rfl⟩,
    fun i => ⟨rfl, rfl, rfl, rfl⟩, fun k => ⟨rfl, rfl⟩⟩
  case codes =>
    simp only [List.forall_mem_cons]
    repeat refine ⟨rfl, ?_⟩
    exact List.forall_mem_nil _

/-- Settles O1: both cases of a step. -/
theorem stepTakesTheFront : Obligations.StepTakesTheFront := by
  refine ⟨fun c rest s h => ?_, fun s h => ?_⟩
  · simp only [step, h]
  · simp only [step, h]

/-! ### Every request is one examination -/

section
variable (payload : List Byte)

theorem argNone_isSome : (argNone payload).isSome = true ↔ payload.length = 0 := by
  cases payload <;> simp [argNone]

theorem argByte_isSome : (argByte payload).isSome = true ↔ payload.length = 1 := by
  rcases payload with _ | ⟨a, _ | ⟨b, rest⟩⟩ <;> simp [argByte]

theorem argTwoBytes_isSome : (argTwoBytes payload).isSome = true ↔ payload.length = 2 := by
  rcases payload with _ | ⟨a, _ | ⟨b, _ | ⟨c, rest⟩⟩⟩ <;> simp [argTwoBytes]

theorem argWord_isSome : (argWord payload).isSome = true ↔ payload.length = 2 := by
  rcases payload with _ | ⟨a, _ | ⟨b, _ | ⟨c, rest⟩⟩⟩ <;> simp [argWord]

theorem argThreeBytes_isSome : (argThreeBytes payload).isSome = true ↔ payload.length = 3 := by
  rcases payload with _ | ⟨a, _ | ⟨b, _ | ⟨c, _ | ⟨d, rest⟩⟩⟩⟩ <;> simp [argThreeBytes]

theorem argLong_isSome : (argLong payload).isSome = true ↔ payload.length = 4 := by
  rcases payload with _ | ⟨a, _ | ⟨b, _ | ⟨c, _ | ⟨d, _ | ⟨e, rest⟩⟩⟩⟩⟩ <;> simp [argLong]

theorem argGeometry_isSome : (argGeometry payload).isSome = true ↔ payload.length = 4 := by
  rcases payload with _ | ⟨a, _ | ⟨b, _ | ⟨c, _ | ⟨d, _ | ⟨e, rest⟩⟩⟩⟩⟩ <;> simp [argGeometry]

theorem argSubmit_isSome : (argSubmit payload).isSome = true ↔ 1 ≤ payload.length := by
  cases payload <;> simp [argSubmit]

theorem argLoad_isSome : (argLoad payload).isSome = true ↔ payload.length = 42 := by
  unfold argLoad
  split <;> simp_all

theorem argSync_isSome (p : Port) : (argSync p payload).isSome = true ↔ payload.length = if p = .site then 2 else 3 := by
  cases p <;> rcases payload with _ | ⟨a, _ | ⟨b, _ | ⟨c, _ | ⟨d, rest⟩⟩⟩⟩ <;> simp [argSync]

end

/-- The command examines its payload as its code asks: its parser takes exactly the lengths of the code. -/
def Examination (c : Instr) (p : Port) (code : Byte) (payload : List Byte) (s : State) : Prop :=
  ∃ (α : Type) (args : Option α) (rule : α → State → Reply),
    exec c s = .next (s.command p c.isSync payload args rule) ∧ (args.isSome = true ↔ lengthFits p code payload.length)

theorem examined_of {α : Type} {c : Instr} {p : Port} {code : Byte} {payload : List Byte} {s : State} {args : Option α}
    {rule : α → State → Reply} {fits : Prop} (hexec : exec c s = .next (s.command p c.isSync payload args rule))
    (hargs : args.isSome = true ↔ fits) (hfits : lengthFits p code payload.length ↔ fits) : Examination c p code payload s :=
  ⟨α, args, rule, hexec, hargs.trans hfits.symm⟩

theorem request_examined (c : Instr) (s : State) {p : Port} {code : Byte} {payload : List Byte}
    (h : c.request = some (p, code, payload)) : Examination c p code payload s := by
  cases c with
  | sync => cases h; exact examined_of rfl (argSync_isSome ..) (by simp [lengthFits])
  | status | fetch | suspend | resume | advance | cancelRotation | resetArm | reset =>
    cases h; exact examined_of rfl (argNone_isSome _) (by simp [lengthFits])
  | setEvents | ackEvents | permit | eraseSlot | eraseBank | retire | slotInfo | setSessionLife | lockArea | setFreeze | setLanes
  | readCounts | clearCounts => cases h; exact examined_of rfl (argByte_isSome _) (by simp [lengthFits])
  | setWindow => cases h; exact examined_of rfl (argTwoBytes_isSome _) (by simp [lengthFits])
  | setCurrent | setSite => cases h; exact examined_of rfl (argWord_isSome _) (by simp [lengthFits])
  | setProtectVolatile | setProtectNv | setPortMonitor =>
    cases h; exact examined_of rfl (argThreeBytes_isSome _) (by simp [lengthFits])
  | setRotation | setCounter => cases h; exact examined_of rfl (argLong_isSome _) (by simp [lengthFits])
  | setGeometry => cases h; exact examined_of rfl (argGeometry_isSome _) (by simp [lengthFits])
  | submit => cases h; exact examined_of rfl (argSubmit_isSome _) (by simp [lengthFits])
  | load => cases h; exact examined_of rfl (argLoad_isSome _) (by simp [lengthFits])
  | _ => cases h

/-! ### Counted errors (R180) -/

theorem PortUnit.setCount_state (k : ErrorKind) (n : Byte) (x : PortUnit) : (x.setCount k n).state = x.state := by
  cases k <;> rfl

theorem PortUnit.count_setCount (k : ErrorKind) (n : Byte) (x : PortUnit) : (x.setCount k n).count k = n := by
  cases k <;> rfl

theorem PortUnit.count_setCount_of_ne {k k' : ErrorKind} (h : k' ≠ k) (n : Byte) (x : PortUnit) :
    (x.setCount k n).count k' = x.count k' := by
  match k, k', h with
  | .check, .check, h | .frame, .frame, h | .command, .command, h => exact absurd rfl h
  | .check, .frame, _ | .check, .command, _ | .frame, .check, _ | .frame, .command, _ | .command, .check, _
  | .command, .frame, _ => rfl

theorem PortUnit.count_withState (x : PortUnit) (st : PortState) (k : ErrorKind) :
    ({ x with state := st } : PortUnit).count k = x.count k := by
  cases k <;> rfl

theorem Monitor.reaches_iff (m : Monitor) (k : ErrorKind) (n : Byte) :
    m.reaches k n = true ↔ m.bump k n ≠ n ∧ m.bump k n = m.threshold ∧ m.halts k = true := by
  simp only [Monitor.reaches, Bool.and_eq_true, bne_iff_ne, beq_iff_eq, and_comm, and_left_comm]

/-- A change of one port unit leaves every other, and of the part nothing else but flags of the site port. -/
theorem State.setPort_frame (s : State) (p : Port) (x : PortUnit) : s.setPort p x =
    { s with lanes := (s.setPort p x).lanes, site := { s.site with port := (s.setPort p x).site.port } } := by
  cases p <;> rfl

theorem State.port_setPort_of_ne {p q : Port} (h : q ≠ p) (s : State) (x : PortUnit) : (s.setPort p x).port q = s.port q := by
  cases p with
  | site =>
    cases q with
    | site => exact absurd rfl h
    | lane l => rfl
  | lane k =>
    cases q with
    | site => rfl
    | lane l =>
      have hne : k ≠ l := fun hk => h (hk ▸ rfl)
      simp only [State.setPort, State.port, State.lane_setLane, if_neg hne]

theorem State.lane_setPort_frame (s : State) (p : Port) (x : PortUnit) (l : LaneIx) :
    (s.setPort p x).lane l = { s.lane l with port := ((s.setPort p x).lane l).port } := by
  cases p with
  | site => rfl
  | lane k =>
    simp only [State.setPort, State.lane_setLane]
    split
    · subst l; rfl
    · rfl

theorem State.setPort_site_flags (s : State) (p : Port) (x : PortUnit) : (s.setPort p x).site.flags = s.site.flags := by
  cases p <;> rfl

theorem State.port_flagSite (s : State) (f : SiteFlag) (q : Port) : (s.flagSite f).port q = s.port q := by
  cases q <;> rfl

/-- The unit of a port after a counted error. -/
def State.countedUnit (s : State) (p : Port) (k : ErrorKind) : PortUnit :=
  (s.port p).setCount k (s.monitor.bump k ((s.port p).count k))

theorem State.countError_of_reached {s : State} {p : Port} {k : ErrorKind}
    (h : s.monitor.reaches k ((s.port p).count k) = true) : s.countError p k =
      (s.setPort p { s.countedUnit p k with state := (s.port p).state.halt }).flagSite .port := by
  unfold State.countError
  dsimp only
  rw [if_pos h, PortUnit.setCount_state]
  rfl

theorem State.countError_of_unreached {s : State} {p : Port} {k : ErrorKind}
    (h : ¬ s.monitor.reaches k ((s.port p).count k) = true) : s.countError p k = s.setPort p (s.countedUnit p k) := by
  unfold State.countError
  dsimp only
  rw [if_neg h]
  rfl

theorem State.unexamined_closed {s : State} {p : Port} :
    (s.power = .off ∨ s.power = .held → s.unexamined p = some none) ∧
    (s.power = .starting → s.unexamined p = some (some { status := .starting, payload := [] })) ∧
    (s.power = .running → (s.port p).state = .disabled →
      s.unexamined p = some (some { status := .portDisabled, payload := [] })) := by
  refine ⟨?_, fun h => by simp only [State.unexamined, h], fun h h' => by simp only [State.unexamined, h, h']⟩
  rintro (h | h) <;> simp only [State.unexamined, h]

section
variable {α : Type} {s : State} {p : Port} {syncing : Bool} {payload : List Byte} {args : Option α} {rule : α → State → Reply}

theorem State.command_unexamined {r : Option Response} (h : s.unexamined p = some r) :
    s.command p syncing payload args rule = s.answer p r := by
  simp only [State.command, h]

variable (h : s.unexamined p = none)
include h

theorem State.command_long (hl : 64 < payload.length) :
    s.command p syncing payload args rule = (s.countError p .frame).answer p none := by
  have hlong : Config.payloadMax < payload.length := hl
  simp only [State.command, h, if_pos hlong]

theorem State.command_bad (hl : payload.length ≤ 64) (ha : ¬ args.isSome = true) :
    s.command p syncing payload args rule =
      ((s.disarm p).countError p .command).answer p (some { status := .badLength, payload := [] }) := by
  have hshort : ¬ Config.payloadMax < payload.length := Nat.not_lt.mpr hl
  rw [Option.not_isSome_iff_eq_none] at ha
  simp only [State.command, h, if_neg hshort, ha]

theorem State.command_refused (hl : payload.length ≤ 64) (ha : args.isSome = true) {c : Code}
    (hc : (s.port p).state.refusal syncing = some c) :
    s.command p syncing payload args rule = (s.disarm p).answer p (some { status := c, payload := [] }) := by
  have hshort : ¬ Config.payloadMax < payload.length := Nat.not_lt.mpr hl
  obtain ⟨a, rfl⟩ := Option.isSome_iff_exists.mp ha
  simp only [State.command, h, if_neg hshort, hc]

end

/-- Settles O15: the errors of the examination, and the count of an error by whether it reaches the threshold. -/
theorem errorFramesAreCounted : Obligations.ErrorFramesAreCounted := by
  refine ⟨fun s p hp => ?rows, fun c s p code payload hp hc => ?requests, fun s p k => ?counted⟩
  case rows =>
    have hu := hp.unexamined
    refine ⟨fun how => ?_, ?_, fun code => ?_⟩
    · change execFrameError p how s = _
      simp only [execFrameError, hu]
    · change execCheckFail p s = _
      simp only [execCheckFail, hu]
    · change execUnknownCommand p code s = _
      simp only [execUnknownCommand, hu]
  case requests =>
    obtain ⟨α, args, rule, hexec, hfits⟩ := request_examined c s hc
    rw [hexec]
    exact ⟨fun hl => by rw [State.command_long hp.unexamined hl],
      fun hl hbad => by rw [State.command_bad hp.unexamined hl ((not_congr hfits).mpr hbad)]⟩
  case counted =>
    intro n m reached t
    have hm : s.monitor.bump k n = m := rfl
    have hreached : s.monitor.reaches k n = true ↔ reached := s.monitor.reaches_iff k n
    by_cases h : reached
    · have ht : t = _ := State.countError_of_reached (hreached.mpr h)
      rw [ht]
      refine ⟨?_, fun k' hk => ?_, fun _ => ⟨?_, ?_⟩, fun hn => absurd h hn, fun q hq => ?_, ?_, fun l => ?_⟩
      · rw [State.port_flagSite, State.port_setPort_self, PortUnit.count_withState]
        exact PortUnit.count_setCount ..
      · rw [State.port_flagSite, State.port_setPort_self, PortUnit.count_withState]
        exact PortUnit.count_setCount_of_ne hk ..
      · rw [State.port_flagSite, State.port_setPort_self]
      · exact congrArg (· ||| SiteFlag.port.bit) (State.setPort_site_flags ..)
      · rw [State.port_flagSite, State.port_setPort_of_ne hq]
      · rw [State.flagSite, State.setPort_frame]
      · exact State.lane_setPort_frame ..
    · have ht : t = _ := State.countError_of_unreached ((not_congr hreached).mpr h)
      rw [ht]
      refine ⟨?_, fun k' hk => ?_, fun hn => absurd hn h, fun _ => ⟨?_, ?_⟩, fun q hq => ?_, ?_, fun l => ?_⟩
      · rw [State.port_setPort_self]
        exact PortUnit.count_setCount ..
      · rw [State.port_setPort_self]
        exact PortUnit.count_setCount_of_ne hk ..
      · rw [State.port_setPort_self]
        exact PortUnit.setCount_state ..
      · exact State.setPort_site_flags ..
      · exact State.port_setPort_of_ne hq ..
      · rw [State.setPort_site_flags]
        exact State.setPort_frame ..
      · exact State.lane_setPort_frame ..

/-- Settles O16: what a port that examines nothing answers, and what one that takes SYNC alone does. -/
theorem closedPortsTakeNothing : Obligations.ClosedPortsTakeNothing := by
  refine ⟨fun c s p hc => ?closed, fun s p how hhow hclosed => ?cut, fun c s p code payload hc hsync hrun hst => ?syncOnly⟩
  case closed =>
    have hanswer : ∀ r, s.unexamined p = some r → exec c s = .next (s.answer p r) := by
      intro r hr
      rcases hc with ⟨code, payload, hc⟩ | rfl | ⟨code, rfl⟩ | rfl
      · obtain ⟨α, args, rule, hexec, -⟩ := request_examined c s hc
        rw [hexec, State.command_unexamined hr]
      · change execCheckFail p s = _
        simp only [execCheckFail, hr]
      · change execUnknownCommand p code s = _
        simp only [execUnknownCommand, hr]
      · change execFrameError p _ s = _
        simp only [execFrameError, hr, if_true]
    obtain ⟨hoff, hstarting, hdisabled⟩ := State.unexamined_closed (s := s) (p := p)
    exact ⟨fun h => hanswer _ (hoff h), fun h => hanswer _ (hstarting h), fun h h' => hanswer _ (hdisabled h h')⟩
  case cut =>
    obtain ⟨hoff, hstarting, hdisabled⟩ := State.unexamined_closed (s := s) (p := p)
    have hsilent : ∃ r, s.unexamined p = some r := by
      rcases hclosed with h | h | h | ⟨h, h'⟩
      · exact ⟨_, hoff (.inl h)⟩
      · exact ⟨_, hoff (.inr h)⟩
      · exact ⟨_, hstarting h⟩
      · exact ⟨_, hdisabled h h'⟩
    obtain ⟨r, hr⟩ := hsilent
    change execFrameError p how s = _
    simp only [execFrameError, hr, if_neg hhow]
  case syncOnly =>
    obtain ⟨α, args, rule, hexec, hfits⟩ := request_examined c s hc
    have hexamines : s.Examines p := ⟨hrun, hst.imp id .inr⟩
    have hu := hexamines.unexamined
    have hrefusal : (s.port p).state.refusal c.isSync =
        some (if (s.port p).state = .resync then .notSynced else .portHalted) := by
      rw [hsync]
      rcases hst with h | h <;> rw [h] <;> rfl
    rw [hexec]
    exact ⟨fun hl => by rw [State.command_long hu hl],
      fun hl hbad => by rw [State.command_bad hu hl ((not_congr hfits).mpr hbad)],
      fun hl hgood => by rw [State.command_refused hu hl (hfits.mpr hgood) hrefusal]⟩

end Sys2Proof.Machine

/-! PROOFS. The commands of the port interface on READY ports (R82 to R85, R165, R166, R177 to R184): each takes its
rule, and the rule's change and the frame's own effect are on different items. -/

namespace Sys2Proof.Machine

/-- A command that its port takes is heard, with what its rule makes of the state. -/
theorem State.next_heard {α : Type} {s t : State} {p : Port} {syncing : Bool} {payload : List Byte} {a : α}
    {rule : α → State → Reply} {code : Code} {answered : List Byte} (hp : s.Admits p) (hl : payload.length ≤ 64)
    (hrule : rule a (s.disarm p) = reply code answered (t.disarm p)) :
    (Host.Outcome.next (s.command p syncing payload (some a) rule) : Host.Outcome State Fault Refusal) =
      .next (t.heard p code answered) := by
  rw [State.command_ready syncing hp hl, hrule]
  rfl

/-- A SYNC that its port examines is heard, with what its rule makes of the state. -/
theorem State.next_heard_sync {α : Type} {s t : State} {p : Port} {payload : List Byte} {a : α}
    {rule : α → State → Reply} {code : Code} {answered : List Byte} (hp : s.Examines p) (hl : payload.length ≤ 64)
    (hrule : rule a (s.disarm p) = reply code answered (t.disarm p)) :
    (Host.Outcome.next (s.command p true payload (some a) rule) : Host.Outcome State Fault Refusal) =
      .next (t.heard p code answered) := by
  rw [State.command_sync hp hl, hrule]
  rfl

/-! ### SYNC (R85, R177) -/

/-- A lane whose context is discarded: its queues are empty, its sessions closed and its serials as they were (R85). -/
theorem Lane.discard_eq (x : Lane) : x.discard =
    { x with flags := x.discard.flags, jobs := [], results := [], counterWait := false,
             sessions := Vector.ofFn fun e => { x.sessions[e] with session := none } } := by
  have hsessions : (x.loseSessions fun _ => true).sessions =
      Vector.ofFn fun e : EntryIx => { x.sessions[e] with session := none } := by
    refine Vector.ext fun i hi => ?_
    have hclosed := x.loseSessions_sessions (fun _ => true) ⟨i, hi⟩
    rw [Fin.getElem_fin] at hclosed
    rw [hclosed, Vector.getElem_ofFn]
    unfold Entry.closeIf
    split
    · rfl
    · rename_i h
      rw [← h]
  unfold Lane.discard
  rw [x.loseSessions_frame]
  simp only [hsessions]

theorem syncRule_lane_accepted {s : State} {l : LaneIx} {code : BitVec 16} (h : code = s.siteCode) :
    syncRule (.lane l) (some (numByte l.val), code) s = reply .ok []
      ({ s with cipher := s.cipher.detach l }.setLane l
        { port := { (s.lane l).port.clearCounts with state := .ready }, flags := 0, enables := 0, jobs := [], results := [],
          counterWait := false, sessions := Vector.ofFn fun e => { (s.lane l).sessions[e] with session := none } }) := by
  have haccepted : s.syncAccepted (.lane l) (some (numByte l.val)) code = true := by simp [State.syncAccepted, h]
  unfold syncRule
  rw [if_pos haccepted]
  simp only [State.discardLane, State.setPort, State.port]
  rw [Lane.discard_eq]
  simp only [State.setLane, State.lane, Fin.getElem_fin, Vector.getElem_set_self, Vector.set_set]

theorem syncRule_site_accepted {s : State} {code : BitVec 16} (h : code = s.siteCode ∨ s.siteCode = 0) :
    syncRule .site (none, code) s = reply .ok []
      { s with site := { s.site with port := { s.site.port.clearCounts with state := .ready } } } := by
  have haccepted : s.syncAccepted .site none code = true := by simpa [State.syncAccepted] using h
  unfold syncRule
  rw [if_pos haccepted]
  rfl

theorem syncRule_refused {s : State} {p : Port} {lane : Option Byte} {code : BitVec 16}
    (h : s.syncAccepted p lane code = false) : syncRule p (lane, code) s = reply .identityMismatch [] (s.flagSite .port) := by
  have hrefused : ¬ s.syncAccepted p lane code = true := by rw [h]; exact Bool.false_ne_true
  unfold syncRule
  rw [if_neg hrefused]
  rfl

/-- Settles O17: a SYNC is accepted or refused by its identity. -/
theorem syncReadiesAPort : Obligations.SyncReadiesAPort := by
  refine ⟨fun s l a b hp hcode => ?lane, fun s a b hp hcode => ?site, fun s l n a b hp hcode => ?laneRefused,
    fun s a b hp hcode hset => ?siteRefused⟩
  case lane =>
    change execSync (.lane l) [numByte l.val, a, b] s = _
    refine (State.next_heard_sync hp (by simp) (syncRule_lane_accepted (s := s) hcode)).trans (congrArg Host.Outcome.next ?_)
    simp only [State.heard, State.disarm, State.answer, State.setPort, State.port, State.setLane, State.lane, Fin.getElem_fin,
      Vector.getElem_set_self, Vector.set_set, PortUnit.clearCounts]
  case site =>
    change execSync .site [a, b] s = _
    exact (State.next_heard_sync (t := { s with site := { s.site with port := { s.site.port.clearCounts with state := .ready } } })
      (payload := [a, b]) hp (by simp) (syncRule_site_accepted (s := s.disarm .site) hcode)).trans rfl
  case laneRefused =>
    have hrefused : s.syncAccepted (.lane l) (some n) (a ++ b) = false := by
      simpa [State.syncAccepted, Decidable.imp_iff_not_or] using hcode
    change execSync (.lane l) [n, a, b] s = _
    exact State.next_heard_sync hp (by simp) (syncRule_refused hrefused)
  case siteRefused =>
    have hrefused : (s.disarm .site).syncAccepted .site none (a ++ b) = false := by
      have hcode' : (a ++ b == s.siteCode) = false := beq_eq_false_iff_ne.mpr hcode
      have hset' : (s.siteCode == 0) = false := beq_eq_false_iff_ne.mpr hset
      change (a ++ b == s.siteCode || s.siteCode == 0) = false
      rw [hcode', hset', Bool.or_false]
    change execSync .site [a, b] s = _
    exact State.next_heard_sync hp (by simp) (syncRule_refused hrefused)

/-! ### Event flags and attention (R182) -/

/-- A word is not 0 exactly when it has a bit. -/
theorem ne_zero_iff_getLsbD {w : Nat} (x : BitVec w) : (x != 0) = true ↔ ∃ k, k < w ∧ x.getLsbD k = true := by
  rw [bne_iff_ne]
  constructor
  · intro h
    refine Classical.byContradiction fun hno => h (BitVec.eq_of_getLsbD_eq fun k hk => ?_)
    refine (Bool.of_not_eq_true ?_).trans BitVec.getLsbD_zero.symm
    exact fun hbit => hno ⟨k, hk, hbit⟩
  · rintro ⟨k, -, hk⟩ rfl
    exact Bool.false_ne_true (BitVec.getLsbD_zero.symm.trans hk)

/-- RESULT reads as the result queue has a result, and the other flags as they are stored (R83). -/
theorem Lane.getLsbD_flagsRead_zero (x : Lane) : x.flagsRead.getLsbD 0 = !x.results.isEmpty := by
  unfold Lane.flagsRead
  split <;> simp_all

theorem Lane.getLsbD_flagsRead_pos (x : Lane) {k : Nat} (hlow : 1 ≤ k) (hhigh : k ≤ 3) :
    x.flagsRead.getLsbD k = x.flags.getLsbD k := by
  unfold Lane.flagsRead
  obtain rfl | rfl | rfl : k = 1 ∨ k = 2 ∨ k = 3 := by omega
  all_goals split <;> simp

/-- Settles O19: the two event commands on each kind of port, and the attention lines bit by bit. -/
theorem eventCommands : Obligations.EventCommands := by
  refine ⟨fun s b => ⟨fun l hp => ⟨?setLane, ?ackLane⟩, fun hp => ⟨?setSite, ?ackSite⟩⟩, fun s l => ?laneLine, fun s => ?siteLine⟩
  case setLane =>
    change execSetEvents (.lane l) [b] s = _
    exact State.next_heard hp (by simp) rfl
  case ackLane =>
    change execAckEvents (.lane l) [b] s = _
    exact State.next_heard hp (by simp) rfl
  case setSite =>
    change execSetEvents .site [b] s = _
    exact State.next_heard hp (by simp) rfl
  case ackSite =>
    change execAckEvents .site [b] s = _
    exact State.next_heard hp (by simp) rfl
  case laneLine =>
    simp only [State.attention, Bool.and_eq_true, beq_iff_eq, ne_zero_iff_getLsbD, BitVec.getLsbD_and]
    refine and_congr_right fun _ => ⟨?_, ?_⟩
    · rintro ⟨k, hk, hflag, henable⟩
      rcases Nat.eq_zero_or_pos k with rfl | hpos
      · rw [Lane.getLsbD_flagsRead_zero] at hflag
        exact .inl ⟨by simpa using hflag, henable⟩
      · have hle : k ≤ 3 := Nat.le_of_lt_succ hk
        rw [Lane.getLsbD_flagsRead_pos _ hpos hle] at hflag
        exact .inr ⟨k, hpos, hle, hflag, henable⟩
    · rintro (⟨hresults, henable⟩ | ⟨k, hpos, hle, hflag, henable⟩)
      · exact ⟨0, by decide, by rw [Lane.getLsbD_flagsRead_zero]; simpa using hresults, henable⟩
      · exact ⟨k, Nat.lt_succ_of_le hle, by rw [Lane.getLsbD_flagsRead_pos _ hpos hle, hflag], henable⟩
  case siteLine =>
    simp only [State.attention, Bool.and_eq_true, beq_iff_eq, ne_zero_iff_getLsbD, BitVec.getLsbD_and, Nat.lt_succ_iff]

/-! ### Monitor, permit and reset (R147, R179, R184) -/

/-- Settles O20: the four rules, each at once. -/
theorem permitMonitorAndReset : Obligations.PermitMonitorAndReset := by
  refine ⟨fun s modes threshold mask hp => ⟨fun ht hm hk => ?monitor, fun hbad => ?badMonitor⟩,
    fun s hp => ⟨fun b => ?permit, ?arm, fun harmed => ?reset, fun harmed => ?notArmed⟩⟩
  case monitor =>
    have hgood : ¬(threshold = 0 ∨ 8 ≤ modes.toNat ∨ 8 ≤ mask.toNat) := by
      rintro (h | h | h)
      · exact ht h
      · omega
      · omega
    change execSetPortMonitor [modes, threshold, mask] s = _
    refine State.next_heard hp (by simp) ?_
    simp only [monitorOf, if_neg hgood]
    rfl
  case badMonitor =>
    change execSetPortMonitor [modes, threshold, mask] s = _
    refine State.next_heard hp (by simp) ?_
    simp only [monitorOf, if_pos hbad]
    rfl
  case permit =>
    change execPermit [b] s = _
    refine State.next_heard hp (by simp) ?_
    by_cases hb : b = 0
    · subst hb; rfl
    · have hset : (b != 0) = true := bne_iff_ne.mpr hb
      simp only [if_neg hb, hset]
      rfl
  case arm =>
    change execResetArm [] s = _
    refine congrArg Host.Outcome.next ?_
    exact (State.command_ready (payload := []) false hp (by simp) () _).trans rfl
  case reset =>
    change execReset [] s = _
    refine State.next_heard hp (by simp) ?_
    simp only [harmed, if_true]
    rfl
  case notArmed =>
    change execReset [] s = _
    refine State.next_heard hp (by simp) ?_
    simp only [harmed, Bool.false_eq_true, if_false]
    rfl

/-! ### FETCH (R82, R84) -/

/-- Settles O28: the result queue has a head or none, and the three forms of a record. -/
theorem fetchTakesTheOldestResult : Obligations.FetchTakesTheOldestResult := by
  refine ⟨fun s l r rest hp hr => ?fetched, fun s l hp hr => ?none,
    fun tag kind code => ⟨rfl, fun _ _ _ => rfl, fun _ _ => rfl⟩⟩
  case fetched =>
    change execFetch l [] s = _
    refine State.next_heard hp (by simp) ?_
    simp only [fetchRule, State.disarm, hr]
  case none =>
    change execFetch l [] s = _
    refine State.next_heard hp (by simp) ?_
    simp only [fetchRule, State.disarm, hr]
    rfl

/-! ### The volatile SET_PROTECT (R165, R166) -/

/-- An area byte other than those of the two areas names none (R165). -/
theorem fixedAreaOf_none {b : Byte} (h1 : b ≠ 0x01) (h2 : b ≠ 0x02) : fixedAreaOf b = none := by
  unfold fixedAreaOf
  rw [if_neg h1, if_neg h2]

/-- Settles O52: the freeze, the area and the option decide in turn. -/
theorem volatileProtection : Obligations.VolatileProtection := by
  intro s value hp overlaid values
  refine ⟨fun hf area => ?frozen, fun hf => ⟨?head, ?tail, fun area h1 h2 => ?bad⟩, fun area option h0 h1 => ?option⟩
  case frozen =>
    change execSetProtectVolatile [area, value, 0] s = _
    refine State.next_heard hp (by simp) ?_
    have hf' : (s.disarm .site).protection.frozen = true := hf
    simp only [protectRule, protectVolatileRule, if_true, hf']
    rfl
  case head =>
    change execSetProtectVolatile [0x01, value, 0] s = _
    refine State.next_heard hp (by simp) ?_
    have hf' : ¬ (s.disarm .site).protection.frozen = true := fun h => Bool.false_ne_true (hf.symm.trans h)
    simp only [protectRule, protectVolatileRule, if_true, if_neg hf']
    rfl
  case tail =>
    change execSetProtectVolatile [0x02, value, 0] s = _
    refine State.next_heard hp (by simp) ?_
    have hf' : ¬ (s.disarm .site).protection.frozen = true := fun h => Bool.false_ne_true (hf.symm.trans h)
    simp only [protectRule, protectVolatileRule, if_true, if_neg hf']
    rfl
  case bad =>
    change execSetProtectVolatile [area, value, 0] s = _
    refine State.next_heard hp (by simp) ?_
    have hf' : ¬ (s.disarm .site).protection.frozen = true := fun h => Bool.false_ne_true (hf.symm.trans h)
    simp only [protectRule, protectVolatileRule, if_true, if_neg hf', fixedAreaOf_none h1 h2]
    rfl
  case option =>
    change execSetProtectVolatile [area, value, option] s = _
    refine State.next_heard hp (by simp) ?_
    simp only [protectRule, if_neg h0, if_neg h1]
    rfl

/-! ### Reports (R18, R183, R186) -/

theorem beBytes_two (n : Nat) : beBytes 2 n = [BitVec.ofNat 8 (n / 256), BitVec.ofNat 8 n] := by
  simp [beBytes]

theorem beBytes_three (n : Nat) : beBytes 3 n = [BitVec.ofNat 8 (n / 65536), BitVec.ofNat 8 (n / 256), BitVec.ofNat 8 n] := by
  simp [beBytes]

theorem beBytes_four (n : Nat) : beBytes 4 n =
    [BitVec.ofNat 8 (n / 16777216), BitVec.ofNat 8 (n / 65536), BitVec.ofNat 8 (n / 256), BitVec.ofNat 8 n] := by
  simp [beBytes]

/-- A position in two bytes, most significant first, two's complement. -/
theorem positionBytes_eq (p : Int) : positionBytes p = [BitVec.ofInt 8 (p / 256), BitVec.ofInt 8 p] := by
  have hhigh : BitVec.ofNat 8 ((BitVec.ofInt 16 p).toNat / 256) = BitVec.ofInt 8 (p / 256) := by
    refine BitVec.eq_of_toNat_eq ?_
    rw [BitVec.toNat_ofNat, BitVec.toNat_ofInt, BitVec.toNat_ofInt]
    omega
  have hlow : BitVec.ofNat 8 (BitVec.ofInt 16 p).toNat = BitVec.ofInt 8 p := by
    refine BitVec.eq_of_toNat_eq ?_
    rw [BitVec.toNat_ofNat, BitVec.toNat_ofInt, BitVec.toNat_ofInt]
    omega
  rw [positionBytes, beBytes_two, hhigh, hlow]

/-- Four flags in one byte, bit 0 first. -/
theorem bitsByte_four (a b c d : Bool) : bitsByte [a, b, c, d] =
    (if a = true then 1 else 0) + (if b = true then 2 else 0) + (if c = true then 4 else 0) + (if d = true then 8 else 0) := by
  revert a b c d
  decide

theorem setWidth_eq_numByte {w : Nat} (x : BitVec w) : x.setWidth 8 = numByte x.toNat :=
  BitVec.eq_of_toNat_eq (by rw [BitVec.toNat_setWidth, numByte, BitVec.toNat_ofNat])

/-- The flags of a lane as they read, in one byte (R83). -/
theorem Lane.flagsRead_byte (x : Lane) : x.flagsRead.setWidth 8 = ((if (!x.results.isEmpty) = true then 1 else 0) +
    (if x.flags.getLsbD 1 = true then 2 else 0) + (if x.flags.getLsbD 2 = true then 4 else 0) +
    (if x.flags.getLsbD 3 = true then 8 else 0) : Byte) := by
  have hbits : ∀ (flags : BitVec 4) (empty : Bool),
      (if empty = true then flags &&& 0xE else flags ||| 0x1).setWidth 8 = ((if (!empty) = true then 1 else 0) +
        (if flags.getLsbD 1 = true then 2 else 0) + (if flags.getLsbD 2 = true then 4 else 0) +
        (if flags.getLsbD 3 = true then 8 else 0) : Byte) := by decide
  exact hbits x.flags x.results.isEmpty

theorem Lane.openSessions_eq (x : Lane) : x.openSessions =
    ((List.finRange 4).filter fun e : EntryIx => (x.sessions[e]).session.isSome).length := by
  have hlist : x.sessions.toList = (List.finRange 4).map fun e : EntryIx => x.sessions[e] := by
    refine List.ext_getElem (by simp) fun i h1 h2 => ?_
    simp
  rw [Lane.openSessions, hlist, List.filter_map, List.length_map]
  rfl

/-- The SLOT_INFO payload, with the presence byte and the area written out (R18). -/
theorem State.slotReport_eq (s : State) (i : SlotIx) : s.slotReport i =
    [numByte i.val, (s.slot i).state.byte, (s.areaOf i).byte] ++
    (match (s.slot i).fields with
     | none => [if (s.ring.live && s.inRing i) = true then 4 else 0, 0, 0, 0, 0, 0, 0, 0]
     | some f => [1 + (if f.generation.isSome = true then 2 else 0) + (if (s.ring.live && s.inRing i) = true then 4 else 0),
         f.usage.byte, numByte f.laneMask.toNat] ++
       (match f.generation with | some g => genBytes g | none => [0, 0]) ++ beBytes 3 f.checkValue.toNat) ++
    (if (s.ring.live && s.inRing i) = true then positionBytes (s.slotPosition i) else [0, 0]) ++
    [flagByte (s.slot i).markPending] := by
  unfold State.slotReport
  extract_lets x placed presence
  have hgen : x.generation = x.fields.bind (·.generation) := rfl
  have hplaced : (s.ring.live && s.inRing i) = placed := rfl
  have hslot : s.slot i = x := rfl
  rw [hplaced, hslot]
  cases hf : x.fields with
  | none =>
    have hpresence : numByte presence = if placed = true then 4 else 0 := by
      simp only [presence, hgen, hf]
      cases placed <;> rfl
    rw [hpresence, hgen, hf]
    simp
  | some f =>
    have hpresence : numByte presence = 1 + (if f.generation.isSome = true then 2 else 0) + (if placed = true then 4 else 0) := by
      obtain ⟨generation, usage, laneMask, checkValue⟩ := f
      simp only [presence, hgen, hf]
      cases placed <;> cases generation <;> rfl
    rw [hpresence, hgen, hf]
    cases hg : f.generation <;> simp [hg, setWidth_eq_numByte]

/-- Settles O18: the layouts are those of the reports, byte for byte. -/
theorem reportsChangeNothing : Obligations.ReportsChangeNothing := by
  unfold Obligations.ReportsChangeNothing
  intro byte two four flag commandCode portByte
  have htwo : ∀ n, beBytes 2 n = two n := beBytes_two
  have hfour : ∀ n, beBytes 4 n = four n := beBytes_four
  have htarget : ∀ t : Target, t.byte = (match t with
      | .slot i => byte i.val | .bank k => byte k.val | .command c => commandCode c | .none => 0xFF) := by
    intro t
    cases t with
    | slot i => rfl
    | bank k => rfl
    | none => rfl
    | command c => cases c <;> rfl
  refine ⟨fun s l hp => ?lane, fun s hp => ?site, fun s i hp => ?oneSlot, fun s b hp hb => ?bad⟩
  case lane =>
    intro x opened
    change execStatus (.lane l) [] s = _
    refine State.next_heard hp (by simp) ?_
    have hready : x.port.state = .ready := hp.2
    have hreport : s.laneStatus l = [x.port.state.byte, numByte x.jobs.length, numByte x.results.length, numByte x.openSessions,
        flagByte x.counterWait, flagByte s.ring.live] ++ genBytes s.ring.c ++
        [numByte s.ring.back, numByte s.ring.ahead, x.flagsRead.setWidth 8, x.enables.setWidth 8] := rfl
    change reply .ok (s.laneStatus l) s = _
    rw [hreport, hready, Lane.openSessions_eq, Lane.flagsRead_byte, genBytes, htwo, setWidth_eq_numByte]
    rfl
  case site =>
    refine ⟨s.engineByte :: s.activeReport, s.heldReport, ?_, fun h => ?_, fun op left h => ?_, fun h => ?_,
      fun op left who h => ?_⟩
    · change execStatus .site [] s = _
      refine State.next_heard hp (by simp) ?_
      change reply .ok s.siteStatus _ = _
      have hlanes : (allLanes.map fun l => (s.lane l).port.state.byte) = [portByte (s.lane 0).port.state,
        portByte (s.lane 1).port.state, portByte (s.lane 2).port.state, portByte (s.lane 3).port.state] := rfl
      have htail : s.store.geometry.tail = 64 - s.store.geometry.head - s.store.geometry.ring := rfl
      unfold State.siteStatus
      cases hlast : s.engine.lastOutcome <;> cases hstate : s.counter.state <;>
        simp only [genBytes, htwo, hfour, htarget, bitsByte_four, setWidth_eq_numByte, hlanes, htail, reduceIte, reduceCtorEq,
          List.append_assoc, List.cons_append, List.nil_append] <;>
        rfl
    · simp only [State.engineByte, State.activeReport, h]
      exact ⟨_, _, _, rfl⟩
    · cases op with
      | load load =>
        simp only [State.engineByte, State.activeReport, h, htarget, htwo]
        exact ⟨_, _, rfl⟩
      | slotOp op => cases op <;> simp only [State.engineByte, State.activeReport, h, htarget, htwo] <;> rfl
      | _ => simp only [State.engineByte, State.activeReport, h, htarget, htwo]; rfl
    · simp only [State.heldReport, h]
      exact ⟨_, _, _, rfl⟩
    · intro whose
      cases op <;> simp only [State.heldReport, h, htarget, htwo] <;> rfl
  case oneSlot =>
    intro x start area placed position
    change execSlotInfo [byte i.val] s = _
    refine State.next_heard hp (by simp) ?_
    have hindex : slotIndexOf (byte i.val) = some i := by
      have hval : (byte i.val).toNat = i.val := numByte_toNat (Nat.le_of_lt i.isLt)
      simp only [slotIndexOf, hval, i.isLt, dif_pos]
    simp only [hindex]
    change reply .ok (s.slotReport i) _ = _
    have harea : (s.areaOf i).byte = area := by
      simp only [area, start, State.areaOf, Geometry.area]
      split
      · rfl
      · split <;> rfl
    have hposition : (if (s.ring.live && s.inRing i) = true then positionBytes (s.slotPosition i) else [0, 0]) = position := by
      rw [positionBytes_eq]
    rw [State.slotReport_eq, harea, hposition]
    have hx : s.slot i = x := rfl
    rw [hx]
    cases hfields : x.fields with
    | none => rfl
    | some f => simp only [beBytes_three, genBytes, htwo]; cases hg : f.generation <;> rfl
  case bad =>
    change execSlotInfo [b] s = _
    refine State.next_heard hp (by simp) ?_
    have hindex : slotIndexOf b = none := dif_neg (Nat.not_lt.mpr hb)
    simp only [hindex]
    rfl

end Sys2Proof.Machine

/-! PROOFS. Every command answers, the reset state, and what a start-up makes (R19 to R21, R47, R124, R160, R162, R178, R184,
R185). -/

namespace Sys2Proof.Machine

/-! ### Every command answers -/

/-- A command that is no request, split along the conditions of its meaning. -/
theorem event_answers {c : Instr} (s : State) (h : c.request = none) : ∃ t, exec c s = .next t := by
  cases c
  case powerOn => change ∃ t, execPowerOn s = _; unfold execPowerOn; (repeat' split) <;> exact ⟨_, rfl⟩
  case powerLoss => change ∃ t, execPowerLoss s = _; unfold execPowerLoss; (repeat' split) <;> exact ⟨_, rfl⟩
  case rstAssert => change ∃ t, execRstAssert s = _; unfold execRstAssert; split <;> exact ⟨_, rfl⟩
  case rstRelease => change ∃ t, execRstRelease s = _; unfold execRstRelease; (repeat' split) <;> exact ⟨_, rfl⟩
  case softReset => change ∃ t, execSoftReset s = _; unfold execSoftReset; (repeat' split) <;> exact ⟨_, rfl⟩
  case startupEnd => change ∃ t, execStartupEnd s = _; unfold execStartupEnd; (repeat' split) <;> exact ⟨_, rfl⟩
  case wplChange high => exact ⟨_, rfl⟩
  case frameError p how => change ∃ t, execFrameError p how s = _; unfold execFrameError; split <;> exact ⟨_, rfl⟩
  case checkFail p => change ∃ t, execCheckFail p s = _; unfold execCheckFail; split <;> exact ⟨_, rfl⟩
  case unknownCommand p code =>
    change ∃ t, execUnknownCommand p code s = _; unfold execUnknownCommand; split <;> exact ⟨_, rfl⟩
  case jobLapse l place =>
    change ∃ t, execJobLapse l place s = _; unfold execJobLapse; (repeat' split) <;> exact ⟨_, rfl⟩
  case grant => change ∃ t, execGrant s = _; unfold execGrant; (repeat' split) <;> exact ⟨_, rfl⟩
  case answerCompletion =>
    change ∃ t, execAnswerCompletion s = _; unfold execAnswerCompletion; split <;> exact ⟨_, rfl⟩
  case verifyCompletion =>
    change ∃ t, execVerifyCompletion s = _; unfold execVerifyCompletion; (repeat' split) <;> exact ⟨_, rfl⟩
  case sealCompletion => change ∃ t, execSealCompletion s = _; unfold execSealCompletion; split <;> exact ⟨_, rfl⟩
  case unwrapCompletion =>
    change ∃ t, execUnwrapCompletion s = _; unfold execUnwrapCompletion; dsimp only; (repeat' split) <;> exact ⟨_, rfl⟩
  case sessionExpiry l e =>
    change ∃ t, execSessionExpiry l e s = _; unfold execSessionExpiry; (repeat' split) <;> exact ⟨_, rfl⟩
  case rotPulseEnd => exact ⟨_, rfl⟩
  case rotationTimerExpiry =>
    change ∃ t, execRotationTimerExpiry s = _; unfold execRotationTimerExpiry; dsimp only; (repeat' split) <;> exact ⟨_, rfl⟩
  case programComplete b => change ∃ t, execProgramComplete b s = _; unfold execProgramComplete; split <;> exact ⟨_, rfl⟩
  case eraseComplete f => change ∃ t, execEraseComplete f s = _; unfold execEraseComplete; split <;> exact ⟨_, rfl⟩
  case setRotationComplete b =>
    change ∃ t, execSetRotationComplete b s = _; unfold execSetRotationComplete; split <;> exact ⟨_, rfl⟩
  case setWindowComplete b =>
    change ∃ t, execSetWindowComplete b s = _; unfold execSetWindowComplete; split <;> exact ⟨_, rfl⟩
  case setGeometryComplete b =>
    change ∃ t, execSetGeometryComplete b s = _; unfold execSetGeometryComplete; (repeat' split) <;> exact ⟨_, rfl⟩
  case setProtectNvComplete b =>
    change ∃ t, execSetProtectNvComplete b s = _; unfold execSetProtectNvComplete; split <;> exact ⟨_, rfl⟩
  case lockAreaComplete r b =>
    change ∃ t, execLockAreaComplete r b s = _; unfold execLockAreaComplete; (repeat' split) <;> exact ⟨_, rfl⟩
  case setFreezeComplete b =>
    change ∃ t, execSetFreezeComplete b s = _; unfold execSetFreezeComplete; split <;> exact ⟨_, rfl⟩
  case setSiteComplete b => change ∃ t, execSetSiteComplete b s = _; unfold execSetSiteComplete; split <;> exact ⟨_, rfl⟩
  case setLanesComplete b =>
    change ∃ t, execSetLanesComplete b s = _; unfold execSetLanesComplete; split <;> exact ⟨_, rfl⟩
  case setCurrentComplete b =>
    change ∃ t, execSetCurrentComplete b s = _; unfold execSetCurrentComplete; (repeat' split) <;> exact ⟨_, rfl⟩
  case setCounterComplete b =>
    change ∃ t, execSetCounterComplete b s = _; unfold execSetCounterComplete; (repeat' split) <;> exact ⟨_, rfl⟩
  case genRecordComplete b =>
    change ∃ t, execGenRecordComplete b s = _; unfold execGenRecordComplete; (repeat' split) <;> exact ⟨_, rfl⟩
  case reservationComplete b =>
    change ∃ t, execReservationComplete b s = _; unfold execReservationComplete; (repeat' split) <;> exact ⟨_, rfl⟩
  case retireMarkComplete b =>
    change ∃ t, execRetireMarkComplete b s = _; unfold execRetireMarkComplete; (repeat' split) <;> exact ⟨_, rfl⟩
  case internalWriteStart =>
    change ∃ t, execInternalWriteStart s = _; unfold execInternalWriteStart; (repeat' split) <;> exact ⟨_, rfl⟩
  case arrayAtRest => exact ⟨_, rfl⟩
  all_goals cases h

/-- Every command answers a next state. -/
theorem exec_answers (c : Instr) (s : State) : ∃ t, exec c s = .next t := by
  cases h : c.request with
  | none => exact event_answers s h
  | some r =>
    obtain ⟨p, code, payload⟩ := r
    obtain ⟨α, args, rule, hexec, -⟩ := request_examined c s h
    exact ⟨_, hexec⟩

/-- A move keeps the supply, the RST line and the commands that wait. -/
def SameSupply (s t : State) : Prop := t.pending = s.pending ∧ t.power = s.power ∧ t.rst = s.rst

theorem SameSupply.trans {s t u : State} (h : SameSupply s t) (h' : SameSupply t u) : SameSupply s u :=
  ⟨h'.1.trans h.1, h'.2.1.trans h.2.1, h'.2.2.trans h.2.2⟩

theorem Alike.sameSupply {s t : State} (h : Alike s t) : SameSupply s t := ⟨h.pending, h.power, h.rst⟩

theorem sameSupply_alignmentCheck (s : State) : SameSupply s s.alignmentCheck := by
  unfold SameSupply
  rw [s.alignmentCheck_frame]
  exact ⟨rfl, rfl, rfl⟩

theorem sameSupply_endOp {s t : State} (h : SameSupply s t) : SameSupply s t.endOp := h

theorem sameSupply_startOp (s : State) (op : Operation) (time : Nat) : SameSupply s (s.startOp op time) := ⟨rfl, rfl, rfl⟩

/-- Of the moves of a part with power the end of start-up alone touches the supply. -/
theorem Move.supply {Q : Prop} {k : MoveKind} {s t : State} (m : Move Q k s t) (hk : k ≠ .supply) :
    SameSupply s t ∨ s.power = .starting ∧ t = { s with power := .running } := by
  cases m with
  | alike h => exact .inl h.sameSupply
  | runs hp => exact .inr ⟨hp, rfl⟩
  | program w load kx key hw ht => exact .inl (by simp [SameSupply, State.beginProgram, State.endWork])
  | erase op time hf hop hl =>
    have hbegun : SameSupply s (s.beginErase op) := by
      unfold State.beginErase
      refine SameSupply.trans ?_ (alike_settleRetry _).sameSupply
      simp [SameSupply]
    exact .inl (hbegun.trans (sameSupply_startOp ..))
  | programFailed | programLoaded | programStale | erased | retire => exact .inl (by simp [SameSupply])
  | dropMarks taken => exact .inl (by simp [SameSupply, State.dropMarks])
  | advance h =>
    have hstep : SameSupply s s.stepped := ⟨rfl, rfl, rfl⟩
    exact .inl ((hstep.trans (sameSupply_alignmentCheck _)).trans (alike_advance s).sameSupply)
  | windowSet r ha =>
    have hset : SameSupply s ((s.putSettings (.good r)).bounded r.back r.ahead) := ⟨rfl, rfl, rfl⟩
    have hcheck := hset.trans (sameSupply_alignmentCheck _)
    have htrim : SameSupply s ((s.putSettings (.good r)).bounded r.back r.ahead).alignmentCheck.trimCache := hcheck
    exact .inl (sameSupply_endOp (htrim.trans (alike_applyWindow r (s.putSettings (.good r))).sameSupply))
  | geometrySet c0 r ha =>
    have hset : SameSupply s (((s.putSettings (.good r)).rebuilt c0 r).closes fun _ _ _ => true) := by
      simp [SameSupply, State.closes, State.rebuilt]
    exact .inl (sameSupply_endOp (hset.trans (alike_applyGeometry c0 r (s.putSettings (.good r))).sameSupply))
  | currentSet i c h ha =>
    have hset : SameSupply s (s.placed c h) := ⟨rfl, rfl, rfl⟩
    exact .inl (sameSupply_endOp ((hset.trans (sameSupply_alignmentCheck _)).trans (alike_applyCurrent c h s).sameSupply))
  | lockSet a r ha => cases a <;> exact .inl ⟨rfl, rfl, rfl⟩
  | counterSet base limit ha => unfold applyCounter; split <;> exact .inl ⟨rfl, rfl, rfl⟩
  | hold who hh =>
    exact .inl (State.holdActive_cases s who (SameSupply s) (fun _ _ _ => ⟨rfl, rfl, rfl⟩) fun _ => ⟨rfl, rfl, rfl⟩)
  | deliver w l r _ _ => unfold State.deliver; split <;> exact .inl ⟨rfl, rfl, rfl⟩
  | startUp | softReset | lose | rstFalls | rstRises | rstReleases | waits => exact absurd rfl hk
  | _ => exact .inl ⟨rfl, rfl, rfl⟩

/-- No move touches the commands that wait. -/
theorem Move.pending {Q : Prop} {k : MoveKind} {s t : State} (m : Move Q k s t) : t.pending = s.pending := by
  by_cases hk : k = .supply
  · subst hk
    cases m with
    | startUp | rstReleases => exact State.startUp_pending ..
    | softReset => exact (State.startUp_pending ..).trans s.abandon_lines.2.2.1
    | lose => exact s.abandon_lines.2.2.1
    | _ => rfl
  · rcases m.supply hk with h | ⟨-, rfl⟩
    · exact h.1
    · rfl

/-- Settles O2: every meaning ends in a next state, and no move of it touches the commands that wait. -/
theorem everyCommandAnswersNext : Obligations.EveryCommandAnswersNext := by
  intro c s
  obtain ⟨t, ht⟩ := exec_answers c s
  exact ⟨t, ht, exec_keeps (P := (·.pending = s.pending)) (Q := False) False.elim
    (fun _ _ _ _ m hs => m.pending.trans hs) rfl ht⟩

/-! ### The state after reset -/

theorem State.reset_lane (l : LaneIx) : State.reset.lane l = Lane.initial := by simp [State.lane, State.reset]

theorem State.reset_slot (i : SlotIx) : State.reset.slot i = Slot.empty := by simp [State.slot, State.reset]

theorem State.reset_session (l : LaneIx) (e : EntryIx) : ((State.reset.lane l).sessions[e]).session = none := by
  rw [State.reset_lane]
  simp [Lane.initial]

theorem reset_windowLaw : WindowLaw State.reset := by
  have hfactory : Settings.factory.Ok := by simp [Settings.Ok, Geometry.Ok, Settings.factory, Geometry.tail]
  refine ⟨hfactory, by decide, fun r hr => ?_, fun a c r ha => (by cases ha), fun a i g h ha => (by cases ha)⟩
  cases hr
  exact hfactory

theorem reset_engineLaw : EngineLaw State.reset where
  beside a x ha := by cases ha
  programs i hi := by rcases hi with ⟨_, h⟩ | ⟨_, _, h⟩ <;> cases h
  programming i hi := by rw [State.reset_slot] at hi; cases hi
  erasing i hi := by rw [State.reset_slot] at hi; cases hi
  loads a l ha := by cases ha
  unwraps w l kx hw := by cases hw
  silent _ := ⟨rfl, rfl, rfl⟩

theorem reset_slotLaw : SlotLaw State.reset :=
  ⟨reset_engineLaw, fun i => by rw [State.reset_slot]; exact ⟨rfl, fun _ => rfl, fun h => by cases h⟩⟩

theorem reset_ringLaw : RingLaw State.reset :=
  ⟨reset_engineLaw, fun a c0 r ha => (by cases ha), fun _ i _ hi => by rw [State.reset_slot] at hi; cases hi⟩

theorem reset_generationsInRing : GenerationsInRing State.reset :=
  ⟨fun i hi => (by rw [State.reset_slot] at hi; cases hi), fun a l ha => (by cases ha)⟩

/-- Settles O3: after reset every slot is BLANK, every lane is at its beginning, and the engines are empty. -/
theorem resetKeepsTheLaws : Obligations.ResetKeepsTheLaws := by
  refine ⟨⟨fun l => ?queues, fun w l hw => (by cases hw)⟩, reset_windowLaw, reset_slotLaw, ?locks, reset_ringLaw, ?sessions,
    ?cache, ?counter, ?rst⟩
  case queues =>
    rw [State.reset_lane]
    exact ⟨Nat.zero_le _, Nat.zero_le _, fun h => by cases h⟩
  case locks =>
    refine ⟨reset_engineLaw, fun i _ => ?_, fun a l ha => (by cases ha)⟩
    rw [State.reset_slot]
    exact ⟨nofun, nofun⟩
  case sessions =>
    refine ⟨reset_windowLaw, reset_slotLaw, reset_ringLaw.2.1, reset_generationsInRing, fun l e x hx => ?_⟩
    rw [State.reset_session] at hx
    cases hx
  case cache =>
    exact ⟨reset_windowLaw, reset_ringLaw, reset_slotLaw, reset_generationsInRing, fun a i g h ha => (by cases ha),
      ⟨Nat.zero_le _, .nil⟩, fun e he => (by cases he)⟩
  case counter =>
    exact
      { engine := reset_engineLaw, running := (nomatch ·), exhausted := (nomatch ·), record := (nomatch · , ·),
        suits := (nomatch · , ·), request := (nomatch · , ·), writing := fun _ _ _ h => (nomatch h),
        alone := fun _ _ _ h => (nomatch h), setting := (nomatch ·), reserving := (nomatch ·) }
  case rst => exact ⟨(nomatch ·), fun _ => rfl⟩

end Sys2Proof.Machine

/-! PROOFS. What a start-up makes of the array and of the lines (R19 to R21, R28, R47, R124, R160, R162, R178, R184, R185), and what
a loss of power leaves (R159). -/

namespace Sys2Proof.Machine

/-! ### The RST line -/

theorem RstLaw.move {Q : Prop} {k : MoveKind} {s t : State} (hs : RstLaw s) (m : Move Q k s t) : RstLaw t := by
  obtain ⟨hheld, hon⟩ := hs
  by_cases hk : k = .supply
  · subst hk
    cases m with
    | startUp hrst => exact ⟨by simp, fun _ => by rw [State.startUp_rst, hrst]⟩
    | softReset hrun => exact ⟨by simp, fun _ => by rw [State.startUp_rst, s.abandon_lines.2.1, hon (.inr hrun)]⟩
    | lose power rst h =>
      rcases h with rfl | ⟨rfl, rfl⟩
      · exact ⟨nofun, nofun⟩
      · exact ⟨fun _ => rfl, nofun⟩
    | rstFalls h =>
      refine ⟨fun _ => rfl, fun hup => ?_⟩
      rcases h with h | h <;> rcases hup with hup | hup <;> exact absurd (h.symm.trans hup) nofun
    | rstRises h => exact ⟨fun hp => absurd hp h, fun _ => rfl⟩
    | rstReleases => exact ⟨by simp, fun _ => by rw [State.startUp_rst]⟩
    | waits h hrst => exact ⟨fun _ => hrst, nofun⟩
  · rcases m.supply hk with ⟨-, hpower, hrst⟩ | ⟨hp, rfl⟩
    · exact ⟨fun h => hrst.trans (hheld (hpower.symm.trans h)), fun h => hrst.trans (hon (by rwa [hpower] at h))⟩
    · exact ⟨nofun, fun _ => hon (.inl hp)⟩

theorem rstLawKept : Kept RstLaw :=
  kept_of_moves False False.elim (fun _ _ hs => hs) fun _ _ _ m hs => hs.move m

/-! ### Start-up, field by field -/

/-- The low-water condition touches of the write engine the counter-record request alone. -/
theorem State.examineLowWater_engine (s : State) :
    s.examineLowWater.engine = { s.engine with counterRequest := s.examineLowWater.engine.counterRequest } := by
  unfold State.examineLowWater
  split <;> rfl

/-- The fields of a start-up that neither the alignment check nor the low-water condition touches. -/
theorem State.startUp_fields (s : State) (soft : Bool) :
    let set := s.array.settings.settingsTaken
    let ring := ringAtStart set s.array.generation
    let t := s.startUp soft
    t.site = { port := PortUnit.initial,
               flags := if (counterAtStart s.array.counter).state = .running then 0 else SiteFlag.counter.bit,
               enables := if soft then s.site.enables else 0x7F, resetArm := false, resetTaken := false } ∧
    t.monitor = (if soft then s.monitor else Monitor.initial) ∧ t.sessionLife = (if soft then s.sessionLife else 40) ∧
    t.protection = { head := protectionAtStart set.headProtect s.array.headCell,
                     tail := protectionAtStart set.tailProtect s.array.tailCell,
                     freeze := set.freeze, wpl := s.protection.wpl } ∧
    t.siteCode = set.siteCode ∧ t.laneEnable = set.laneEnable ∧
    (t.notes.genRecordLost = !ring.live) ∧ (t.notes.settingsLost = !s.array.settings.isGood) ∧ t.notes.soft = soft := by
  intro set ring t
  subst t
  unfold State.startUp
  extract_lets counter slots base
  rw [State.examineLowWater_frame, base.alignmentCheck_frame]
  exact ⟨rfl, rfl, rfl, rfl, rfl, rfl, rfl, rfl, rfl⟩

/-- The write engine at a start-up: nothing active, held or requested but the reservation of R124. -/
theorem State.startUp_writeEngine (s : State) (soft : Bool) :
    (s.startUp soft).engine =
      { active := none, held := none, permit := false, counterRequest := (s.startUp soft).engine.counterRequest,
        genRequest := none, retireRetry := false, lastOutcome := none, lastResume := none,
        faults := { settings := !s.array.settings.isGood,
                    generation := !(ringAtStart s.array.settings.settingsTaken s.array.generation).live,
                    counter := !s.array.counter.isGood, retireMarks := false },
        restLeft := 0 } := by
  unfold State.startUp
  extract_lets set ring counter slots base
  have hengine : base.alignmentCheck.engine = base.engine := by rw [base.alignmentCheck_frame]
  rw [State.examineLowWater_engine, hengine]

theorem Lane.initial_loseSessions (p : Session → Bool) : Lane.initial.loseSessions p = Lane.initial :=
  Lane.loseSessions_none _ _ fun e y h => by simp [Lane.initial] at h

/-- Every lane is at its beginning. -/
theorem State.startUp_lane (s : State) (soft : Bool) (l : LaneIx) : (s.startUp soft).lane l = Lane.initial := by
  unfold State.startUp
  extract_lets set ring counter slots base
  have hbase : base.lane l = Lane.initial := by simp [State.lane, base]
  have hlow : ∀ u : State, u.examineLowWater.lane l = u.lane l := fun u => by rw [u.examineLowWater_frame]; rfl
  rw [hlow]
  unfold State.alignmentCheck
  split
  · rw [State.lane_retireSlots, hbase, Lane.initial_loseSessions]
  · exact hbase

/-- The counter and its request at a start-up are those of the low-water condition, examined with nothing in progress. -/
theorem State.startUp_counter (s : State) (soft : Bool) :
    (s.startUp soft).counter = (if (counterAtStart s.array.counter).lowWater = true
        then { counterAtStart s.array.counter with reserving := true } else counterAtStart s.array.counter) ∧
      (s.startUp soft).engine.counterRequest = if (counterAtStart s.array.counter).lowWater = true
        then some { limit := min ((counterAtStart s.array.counter).limit + 4096) 4294967295, retry := false } else none := by
  unfold State.startUp
  extract_lets set ring counter slots base
  have hcounter : base.alignmentCheck.counter = counterAtStart s.array.counter := by rw [base.alignmentCheck_frame]
  have hengine : base.alignmentCheck.engine = base.engine := by rw [base.alignmentCheck_frame]
  unfold State.examineLowWater
  rw [hcounter]
  split
  · unfold State.requestReservation
    rw [hcounter]
    exact ⟨rfl, rfl⟩
  · rw [hcounter, hengine]
    exact ⟨rfl, rfl⟩

/-- Settles O22: the supply events by their conditions, and the fields of a start-up. -/
theorem startUpBegins : Obligations.StartUpBegins := by
  refine ⟨rstLawKept, fun s => ⟨fun hoff hrst => ?on, fun hoff hrst => ?waits, fun hheld => ?releases, fun hoff => ?lines,
    fun hrun htaken => ?softly, fun soft => ?fields⟩⟩
  case on => change execPowerOn s = _; simp [execPowerOn, hoff, hrst]
  case waits => change execPowerOn s = _; simp [execPowerOn, hoff, hrst]
  case releases => change execRstRelease s = _; simp [execRstRelease, hheld]
  case lines =>
    constructor
    · change execRstAssert s = _; simp [execRstAssert, hoff]
    · change execRstRelease s = _; simp [execRstRelease, hoff]
  case softly => change execSoftReset s = _; simp [execSoftReset, hrun, htaken]
  case fields =>
    intro t
    obtain ⟨hsite, hmonitor, hlife, hprotection, -, -, -, -, hsoft⟩ := s.startUp_fields soft
    have hengine := s.startUp_writeEngine soft
    exact ⟨State.startUp_power .., State.startUp_clock .., State.startUp_array .., State.startUp_cipher ..,
      State.startUp_cache .., s.startUp_lane soft, by rw [hengine], by rw [hengine], by rw [hengine], by rw [hengine],
      by rw [hengine], by rw [hengine], by rw [hengine], by rw [hsite], by rw [hsite], by rw [hsite], by rw [hsite], hmonitor,
      hlife, hsoft, by rw [hprotection], State.startUp_rst .., State.startUp_pending ..⟩

/-- A good LIVE generation record whose h lies below N makes the ring LIVE at its values (R47). -/
theorem ringAtStart_live {set : Settings} {r : NvRecord GenRecord} {g : GenRecord} (hr : r = .good g) (hlive : g.live = true)
    (hh : g.h < set.geometry.ring) :
    ringAtStart set r = { live := true, c := g.c, h := g.h, back := set.back, ahead := set.ahead, period := set.period,
                          remaining := set.period, secondRun := 0, rotationPending := false } := by
  subst hr
  simp [ringAtStart, hlive, hh]

/-- Any other generation record leaves the ring UNSET (R47). -/
theorem ringAtStart_unset {set : Settings} {r : NvRecord GenRecord}
    (h : ∀ g, r = .good g → g.live = false ∨ set.geometry.ring ≤ g.h) : (ringAtStart set r).live = false := by
  cases r with
  | good g =>
    rcases h g rfl with hlive | hh
    · simp [ringAtStart, hlive]
    · simp [ringAtStart, Nat.not_lt.mpr hh]
  | _ => rfl

/-- What the ring takes from the settings, LIVE or UNSET. -/
theorem ringAtStart_settings (set : Settings) (r : NvRecord GenRecord) :
    (ringAtStart set r).back = set.back ∧ (ringAtStart set r).ahead = set.ahead ∧ (ringAtStart set r).period = set.period ∧
      (ringAtStart set r).remaining = set.period ∧ (ringAtStart set r).rotationPending = false := by
  unfold ringAtStart
  dsimp only
  (repeat' split) <;> exact ⟨rfl, rfl, rfl, rfl, rfl⟩

/-- Settles O23: the fields of a start-up, read record by record. -/
theorem startUpTakesTheRecords : Obligations.StartUpTakesTheRecords := by
  unfold Obligations.StartUpTakesTheRecords
  intro s soft t set lost
  obtain ⟨hsite, -, -, hprotection, hcode, henable, hgenLost, hsetLost, -⟩ := s.startUp_fields soft
  have hengine := s.startUp_writeEngine soft
  obtain ⟨hgeometry, hring⟩ := s.startUp_ring soft
  obtain ⟨hcounter, hrequest⟩ := s.startUp_counter soft
  have htaken : s.array.settings.settingsTaken = set := by
    simp only [set]
    cases s.array.settings <;> rfl
  rw [htaken] at hprotection hcode henable hgenLost hengine hgeometry hring
  obtain ⟨hback, hahead, hperiod, hremaining, hpending⟩ := ringAtStart_settings set s.array.generation
  refine ⟨?settings, hsetLost, ?fault, ?remaining, ?pending, ?live, ?unset, ?running, ?exhausted, ?noRecord, ?head, ?tail⟩
  case settings =>
    unfold State.settings
    rw [hgeometry, hring, hback, hahead, hperiod, hprotection, hcode, henable]
    rfl
  case fault => rw [hengine]
  case remaining => rw [hring, hremaining]
  case pending => rw [hring, hpending]
  case live =>
    intro g hg hlive hh
    have hat := ringAtStart_live hg hlive hh
    rw [hat] at hring hgenLost hengine
    exact ⟨by rw [hring], by rw [hring], by rw [hring], hgenLost, by rw [hengine]; rfl⟩
  case unset =>
    intro hno
    have hat := ringAtStart_unset hno
    rw [hat] at hgenLost hengine
    exact ⟨by rw [hring, hat], hgenLost, by rw [hengine]; rfl⟩
  case running =>
    intro v hv hlow
    have hat : counterAtStart s.array.counter =
        { state := .running, next := v, limit := v, reserving := false, setting := false } := by
      rw [hv]
      exact if_neg (Nat.ne_of_lt hlow)
    have hwater : (counterAtStart s.array.counter).lowWater = true := by
      rw [hat]
      simp [Counter.lowWater, Config.counterTop, hlow]
    rw [if_pos hwater, hat] at hcounter hrequest
    refine ⟨hcounter, hrequest, ?_, ?_⟩
    · rw [hsite, hat]; rfl
    · rw [hengine, hv]; rfl
  case exhausted =>
    intro hv
    have hat : counterAtStart s.array.counter =
        { state := .exhausted, next := 4294967295, limit := 4294967295, reserving := false, setting := false } := by
      rw [hv]
      simp [counterAtStart, Config.counterTop]
    have hwater : ¬(counterAtStart s.array.counter).lowWater = true := by
      rw [hat]
      exact Bool.false_ne_true
    rw [if_neg hwater] at hcounter hrequest
    refine ⟨hcounter.trans hat, hrequest, ?_, ?_⟩
    · rw [hsite, hat]; rfl
    · rw [hengine, hv]; rfl
  case noRecord =>
    intro hbad
    have hat : counterAtStart s.array.counter =
        { state := .unset, next := 0, limit := 0, reserving := false, setting := false } := by
      cases hv : s.array.counter with
      | good v => rw [hv] at hbad; cases hbad
      | _ => rfl
    have hwater : ¬(counterAtStart s.array.counter).lowWater = true := by
      rw [hat]
      exact Bool.false_ne_true
    rw [if_neg hwater] at hcounter hrequest
    refine ⟨by rw [hcounter, hat], hrequest, ?_, ?_⟩
    · rw [hsite, hat]; rfl
    · rw [hengine, hbad]; rfl
  case head => rw [hprotection]; rfl
  case tail => rw [hprotection]; rfl

/-! ### The working image at a start-up -/

/-- The slot that a start-up reads from the array, before the alignment check (R20). -/
def State.readSlot (s : State) (i : SlotIx) : Slot := (s.nvSlot i).classify (s.array.settings.settingsTaken.geometry.area i)

/-- The slots after a start-up: a LOADED ring slot of a LIVE ring that does not hold the generation of its position is retired
(R20, R28). -/
theorem State.startUp_slot_eq (s : State) (soft : Bool) (i : SlotIx) :
    let t := s.startUp soft
    t.slot i = if t.ring.live = true ∧ t.areaOf i = .ring ∧ (s.readSlot i).state = .loaded ∧
        (s.readSlot i).generation ≠ some (t.ring.standsFor t.store.geometry i)
      then (s.readSlot i).retire else s.readSlot i := by
  intro t
  obtain ⟨hgeometry, hring⟩ := s.startUp_ring soft
  have harea : t.areaOf i = s.array.settings.settingsTaken.geometry.area i := by simp only [State.areaOf, t, hgeometry]
  rw [harea, hgeometry, hring]
  subst t
  unfold State.startUp
  extract_lets set ring counter slots base
  have hslot : base.slot i = s.readSlot i := by simp [State.slot, base, slots, set, State.readSlot, State.nvSlot]
  have hlow : ∀ u : State, u.examineLowWater.slot i = u.slot i := fun u => by rw [u.examineLowWater_frame]; rfl
  have hlive : base.ring = ring := rfl
  have hmisaligned : base.misaligned i = true ↔ set.geometry.area i = .ring ∧ (s.readSlot i).state = .loaded ∧
      (s.readSlot i).generation ≠ some (ring.standsFor set.geometry i) := by
    have hin : base.inRing i = (set.geometry.area i == .ring) := rfl
    have haligned : base.aligned i = ((s.readSlot i).generation == some (ring.standsFor set.geometry i)) := by
      unfold State.aligned
      rw [hslot]
    simp [State.misaligned, hin, haligned, hslot, and_assoc]
  rw [hlow, State.alignmentCheck_slot, hslot]
  exact ite_congr (propext (by rw [hmisaligned, hlive])) (fun _ => rfl) fun _ => rfl

theorem NvSlot.isErased_iff (x : NvSlot) : x.isErased = true ↔ x = NvSlot.empty := by
  obtain ⟨marker, fields, key, good⟩ := x
  simp [NvSlot.isErased, NvSlot.empty, and_assoc]

theorem usageFits_iff (u : Usage) (a : Area) : usageFits u a = true ↔ (u = .tagRoot ↔ a = .ring) := by
  rw [usageFits, beq_iff_eq, Bool.eq_iff_iff, beq_iff_eq, beq_iff_eq]

/-- The slot that keeps the fields of a record in an area. -/
def keptSlot (x : NvSlot) (a : Area) (f : SlotFields) (st : SlotState) : Slot :=
  { state := st, fields := some { f with generation := if a = .ring then f.generation else none }, key := x.key,
    markPending := false }

/-- A good record whose usage fits the area is read as its marker says (R20). -/
theorem NvSlot.classify_of_good {x : NvSlot} {a : Area} {f : SlotFields} (hgood : x.checkGood = true)
    (hf : x.fields = some f) (hfits : f.usage = .tagRoot ↔ a = .ring) :
    (x.marker = .programEnded → x.classify a = keptSlot x a f .loaded) ∧
    (x.marker = .retireMarked → x.classify a = keptSlot x a f .retired) := by
  have herased : ¬x.isErased = true := by
    rw [NvSlot.isErased_iff]
    rintro rfl
    cases hf
  have hkeep : ∀ st, x.keep a f st = keptSlot x a f st := fun st => if_pos ((usageFits_iff ..).mpr hfits)
  constructor
  · intro hm
    simp only [NvSlot.classify, if_neg herased, hgood, hm, hf, hkeep]
  · intro hm
    simp only [NvSlot.classify, if_neg herased, hgood, hm, hf, hkeep]

/-- Every other record that is not erased is DAMAGED (R20). -/
theorem NvSlot.classify_damaged {x : NvSlot} {a : Area} (herased : x ≠ NvSlot.empty)
    (hbad : ¬(x.checkGood = true ∧ (x.marker = .programEnded ∨ x.marker = .retireMarked) ∧
      ∃ f, x.fields = some f ∧ (f.usage = .tagRoot ↔ a = .ring))) : x.classify a = Slot.cleared .damaged := by
  unfold NvSlot.classify
  rw [if_neg (mt (NvSlot.isErased_iff x).mp herased)]
  split
  · rename_i f hgood hm hf
    exact if_neg fun hfits => hbad ⟨hgood, .inl hm, f, hf, (usageFits_iff ..).mp hfits⟩
  · rename_i f hgood hm hf
    exact if_neg fun hfits => hbad ⟨hgood, .inr hm, f, hf, (usageFits_iff ..).mp hfits⟩
  · rfl

theorem State.startUp_slotsDamaged (s : State) (soft : Bool) :
    (s.startUp soft).notes.slotsDamaged = true ↔ ∃ i, (s.readSlot i).state = .damaged := by
  unfold State.startUp
  extract_lets set ring counter slots base
  have hnotes : base.alignmentCheck.examineLowWater.notes = base.notes := by
    rw [State.examineLowWater_frame, base.alignmentCheck_frame]
  have hdamaged : base.notes.slotsDamaged = slots.toList.any (fun x => x.state == .damaged) := by simp only [base]
  rw [hnotes, hdamaged]
  have hslot : ∀ i : SlotIx, slots[i] = s.readSlot i := fun i => by simp [slots, State.readSlot, State.nvSlot, set]
  simp only [List.any_eq_true, Vector.mem_toList_iff, Vector.mem_iff_getElem, beq_iff_eq]
  constructor
  · rintro ⟨x, ⟨i, hi, rfl⟩, hx⟩
    exact ⟨⟨i, hi⟩, by rw [← hslot]; exact hx⟩
  · rintro ⟨i, hi⟩
    exact ⟨slots[i], ⟨i.val, i.isLt, rfl⟩, by rw [hslot]; exact hi⟩

/-- Settles O24: the record decides the slot, and the alignment check retires no other than a LOADED one. -/
theorem startUpClassifiesTheSlots : Obligations.StartUpClassifiesTheSlots := by
  unfold Obligations.StartUpClassifiesTheSlots
  refine ⟨fun s soft => ?damaged, fun s soft i => ?slots⟩
  case damaged =>
    rw [State.startUp_slotsDamaged]
    refine exists_congr fun i => ?_
    rw [State.startUp_slot_eq]
    split
    · rename_i h
      obtain ⟨-, -, hloaded, -⟩ := h
      rw [hloaded]
      exact ⟨nofun, nofun⟩
    · rfl
  case slots =>
    intro t x fits
    have hslot := s.startUp_slot_eq soft i
    have harea : s.array.settings.settingsTaken.geometry.area i = t.areaOf i := by
      simp only [State.areaOf, t, (s.startUp_ring soft).1]
    have hread : s.readSlot i = x.classify (t.areaOf i) := by rw [← harea]; rfl
    rw [hread] at hslot
    refine ⟨fun hempty => ?_, fun f hgood hf hfits => ?_, fun herased hbad => ?_⟩
    · have hx : x.classify (t.areaOf i) = Slot.empty := by rw [hempty]; rfl
      rw [hx] at hslot
      exact hslot.trans (if_neg fun h => SlotState.noConfusion h.2.2.1)
    · intro kept stale
      obtain ⟨hended, hmarked⟩ := NvSlot.classify_of_good (a := t.areaOf i) hgood hf hfits
      have hgeneration : t.areaOf i = .ring → (keptSlot x (t.areaOf i) f .loaded).generation = f.generation :=
        fun h => if_pos h
      refine ⟨fun hm => ?_, fun hm hfresh => ?_, fun hm hstale => ?_⟩
      · rw [hmarked hm] at hslot
        exact hslot.trans (if_neg fun h => SlotState.noConfusion h.2.2.1)
      · rw [hended hm] at hslot
        refine hslot.trans (if_neg fun h => hfresh ?_)
        obtain ⟨hlive, hring, -, hgen⟩ := h
        rw [hgeneration hring] at hgen
        exact ⟨hring, hlive, hgen⟩
      · rw [hended hm] at hslot
        obtain ⟨hring, hlive, hgen⟩ := hstale
        exact hslot.trans (if_pos ⟨hlive, hring, rfl, by rw [hgeneration hring]; exact hgen⟩)
    · rw [NvSlot.classify_damaged herased hbad] at hslot
      exact hslot.trans (if_neg fun h => SlotState.noConfusion h.2.2.1)

/-! ### A loss of power -/

/-- A retire-mark write that did not succeed touches no record of the array but those of slots (R14). -/
theorem State.scatterMarks_records (s : State) (taken : List SlotIx) :
    (s.scatterMarks taken).array.settings = s.array.settings ∧ (s.scatterMarks taken).array.generation = s.array.generation ∧
    (s.scatterMarks taken).array.counter = s.array.counter ∧ (s.scatterMarks taken).array.headCell = s.array.headCell ∧
    (s.scatterMarks taken).array.tailCell = s.array.tailCell := by
  unfold State.scatterMarks State.mapNvSlots
  exact ⟨rfl, rfl, rfl, rfl, rfl⟩

/-- Each slot that such a write took has its old marker or the new one. -/
theorem State.scatterMarks_nvSlot (s : State) (taken : List SlotIx) (i : SlotIx) :
    (s.scatterMarks taken).nvSlot i = s.nvSlot i ∨
      i ∈ taken ∧ (s.scatterMarks taken).nvSlot i = { s.nvSlot i with marker := .retireMarked } := by
  unfold State.scatterMarks
  have hdrawn : ∀ (u : State) (n : Nat), ({ u with draws := n } : State).nvSlot i = u.nvSlot i := fun _ _ => rfl
  rw [hdrawn, State.nvSlot_mapNvSlots]
  split
  · rename_i h
    rw [Bool.and_eq_true, List.contains_iff_mem] at h
    exact .inr ⟨h.1, rfl⟩
  · exact .inl rfl

/-- Settles O25: what is abandoned is written down operation by operation. -/
theorem abandonedWorkLeavesTheArray : Obligations.AbandonedWorkLeavesTheArray := by
  intro s
  refine ⟨s.abandon.unpowered, { s.abandon.unpowered with power := .held, rst := true }, fun hp => ?loss, fun hp => ?assert, rfl,
    s.abandon_lines.2.1, rfl, rfl, rfl, rfl, rfl, ?wpl, s.abandon_lines.2.2.1, ?array⟩
  case loss =>
    change execPowerLoss s = _
    exact if_neg hp
  case assert =>
    change execRstAssert s = _
    unfold execRstAssert
    rcases hp with hp | hp <;> rw [hp]
  case wpl => rw [State.unpowered_wpl, s.abandon_lines.2.2.2]
  case array =>
    intro op settingsCut generationCut counterCut headCut tailCut
    have harray : s.abandon.unpowered.array = s.abandonActive.array := rfl
    have hslot : ∀ i, s.abandon.unpowered.nvSlot i = s.abandonActive.nvSlot i := fun _ => rfl
    simp only [harray, hslot]
    have hnone : op = s.engine.active.map (·.op) := rfl
    unfold State.abandonActive
    cases ha : s.engine.active with
    | none => simp [settingsCut, generationCut, counterCut, headCut, tailCut, hnone, ha]
    | some a =>
      obtain ⟨o, left⟩ := a
      cases o with
      | settings c r =>
        cases c with
        | lock area =>
          cases area
          all_goals
            simp [settingsCut, generationCut, counterCut, headCut, tailCut, hnone, ha, State.putSettings, State.putCell,
              State.cell, State.nvSlot]
            exact fun h _ => h
        | _ =>
          simp [settingsCut, generationCut, counterCut, headCut, tailCut, hnone, ha, State.putSettings,
            State.putGeneration, State.nvSlot]
      | retireMarks taken retry =>
        have hrecords := State.scatterMarks_records s taken
        simp only [settingsCut, generationCut, counterCut, headCut, tailCut, hnone, ha, hrecords]
        refine ⟨by simp, by simp, by simp, by simp, by simp, by simp, by simp, by simp, fun i => ?_⟩
        rcases State.scatterMarks_nvSlot s taken i with h | ⟨hi, h⟩
        · exact .inl h
        · exact .inr ⟨taken, retry, rfl, hi, h⟩
      | _ =>
        simp [settingsCut, generationCut, counterCut, headCut, tailCut, hnone, ha, State.putGeneration, State.putCounter,
          State.nvSlot]

/-- Settles O26: the lanes and the site port at the end of start-up, and the protection of an area by cases. -/
theorem startupEndAndWpl : Obligations.StartupEndAndWpl := by
  refine ⟨fun s hp => ?ends, fun s high => ⟨rfl, ?frozen, fun x => ?effective⟩⟩
  case frozen => simp [Protection.frozen]
  case effective =>
    refine ⟨fun hl => ?_, fun hl hv => ?_, fun hl hv => ?_⟩ <;> simp_all [AreaProtection.effective]
  case ends =>
    refine ⟨_, if_pos hp, ?_, ?_, fun l => ?_⟩
    · unfold State.openLanes State.mapLanesAt
      rfl
    · unfold State.openLanes State.mapLanesAt
      rw [← s.wait_site s.clock.startupLeft]
      rfl
    · rw [State.lane_flagSite]
      have hport : ∀ (u : State) (x : PortUnit), (u.setPort .site x).lane l = u.lane l := fun _ _ => rfl
      rw [hport, State.openLanes, State.lane_mapLanesAt, ← s.wait_laneEnable s.clock.startupLeft,
        ← s.lane_wait s.clock.startupLeft]
      rfl

end Sys2Proof.Machine

/-! PROOFS. The job queue and the arbiter: SUBMIT, the lapse of a deadline, and the order of grants (R67 to R74). -/

namespace Sys2Proof.Machine

/-! ### SUBMIT -/

/-- The bytes of a payload that a field names. -/
theorem field_eq {payload before bytes after : List Byte} {start n : Nat} (h : payload = before ++ bytes ++ after)
    (hstart : before.length = start) (hn : bytes.length = n) : field payload start n = beNat bytes := by
  subst h hstart hn
  simp [field]

/-- A SUBMIT of a kind with the length of its kind joins a queue with room. -/
theorem submitRule_queued {s : State} {l : LaneIx} {payload : List Byte} {kind : JobKind}
    (hkind : jobKindOf (byteAt payload 0) = some kind) (hlength : payload.length = submitLength kind)
    (hroom : (s.lane l).jobs.length < 8) :
    submitRule l payload s =
      reply .queued ([numByte ((s.lane l).jobs.length + 1)] ++ beBytes 2 (submitJob kind payload s.clock.time).budget)
        (s.setLane l ((s.lane l).pushJob (submitJob kind payload s.clock.time))) := by
  have hroom' : ¬Config.jobRoom ≤ (s.lane l).jobs.length := Nat.not_le.mpr hroom
  simp only [submitRule, hkind, hlength, ne_eq, not_true_eq_false, if_false, if_neg hroom']

theorem argSubmit_cons (b : Byte) (rest : List Byte) : argSubmit (b :: rest) = some (b :: rest) := rfl

theorem jobKindOf_none {b : Byte} (h : b = 0 ∨ 4 ≤ b.toNat) : jobKindOf b = none := by
  have hne : ∀ n : Nat, 1 ≤ n → n ≤ 3 → b ≠ BitVec.ofNat 8 n := by
    rintro n hlow hhigh rfl
    rcases h with h | h
    · have := congrArg BitVec.toNat h
      rw [BitVec.toNat_ofNat, Nat.mod_eq_of_lt (by omega)] at this
      exact absurd this (by simp; omega)
    · rw [BitVec.toNat_ofNat, Nat.mod_eq_of_lt (by omega)] at h
      omega
  have h1 : ¬b = 0x01 := hne 1 (by omega) (by omega)
  have h2 : ¬b = 0x02 := hne 2 (by omega) (by omega)
  have h3 : ¬b = 0x03 := hne 3 (by omega) (by omega)
  unfold jobKindOf
  rw [if_neg h1, if_neg h2, if_neg h3]

/-- The kind bytes from 1 to 3 name the three kinds (R186). -/
theorem jobKindOf_some {b : Byte} (h1 : 1 ≤ b.toNat) (h3 : b.toNat ≤ 3) :
    b = 0x01 ∧ jobKindOf b = some .answer ∨ b = 0x02 ∧ jobKindOf b = some .verify ∨ b = 0x03 ∧ jobKindOf b = some .seal := by
  have hb : b.toNat = 1 ∨ b.toNat = 2 ∨ b.toNat = 3 := by omega
  rcases hb with h | h | h
  · obtain rfl : b = 0x01 := BitVec.eq_of_toNat_eq h
    exact .inl ⟨rfl, rfl⟩
  · obtain rfl : b = 0x02 := BitVec.eq_of_toNat_eq h
    exact .inr (.inl ⟨rfl, rfl⟩)
  · obtain rfl : b = 0x03 := BitVec.eq_of_toNat_eq h
    exact .inr (.inr ⟨rfl, rfl⟩)

/-- A SUBMIT of a kind with another length is a COMMAND error. -/
theorem submitRule_badLength {s : State} {l : LaneIx} {payload : List Byte} {kind : JobKind}
    (hkind : jobKindOf (byteAt payload 0) = some kind) (hlength : payload.length ≠ submitLength kind) :
    submitRule l payload s = reply .badLength [] (s.countError (.lane l) .command) := by
  simp only [submitRule, hkind, if_pos hlength]
  rfl

/-- A SUBMIT with the length of its kind finds a full queue. -/
theorem submitRule_full {s : State} {l : LaneIx} {payload : List Byte} {kind : JobKind}
    (hkind : jobKindOf (byteAt payload 0) = some kind) (hlength : payload.length = submitLength kind)
    (hfull : 8 ≤ (s.lane l).jobs.length) :
    submitRule l payload s = reply .queueFull [numByte (s.lane l).jobs.length] s := by
  have hfull' : Config.jobRoom ≤ (s.lane l).jobs.length := hfull
  simp only [submitRule, hkind, hlength, ne_eq, not_true_eq_false, if_false, if_pos hfull']

/-- A SUBMIT that is heard answers what its rule answers. -/
theorem exec_submit {s t : State} {l : LaneIx} {kind : Byte} {rest : List Byte} {code : Code} {answered : List Byte}
    (hp : s.Admits (.lane l)) (hlen : rest.length < 64)
    (hrule : submitRule l (kind :: rest) s = reply code answered t) :
    exec (.submit l (kind :: rest)) s = .next (t.heard (.lane l) code answered) := by
  change execSubmit l (kind :: rest) s = _
  exact State.next_heard (t := t) hp (Nat.succ_le_of_lt hlen) hrule

/-- Settles O27: a payload spells its fields, and the rule's checks come in their order. -/
theorem submitQueuesAJob : Obligations.SubmitQueuesAJob := by
  unfold Obligations.SubmitQueuesAJob
  refine ⟨fun s l tag b1 b0 hp hroom => ?queued, fun s l kind rest hp hlen => ?refused⟩
  case queued =>
    intro n budget queued
    have hqueued : ∀ (b : Byte) (rest : List Byte) (kind : JobKind) (body : JobBody), jobKindOf b = some kind →
        (b :: tag :: b1 :: b0 :: rest).length = submitLength kind →
        submitBody kind (b :: tag :: b1 :: b0 :: rest) = body → queued (b :: tag :: b1 :: b0 :: rest) body := by
      intro b rest kind body hkind hlength hbody
      have hshort : (tag :: b1 :: b0 :: rest).length < 64 := by
        cases kind <;> simp [submitLength] at hlength ⊢ <;> omega
      refine exec_submit hp hshort ((submitRule_queued (payload := b :: tag :: b1 :: b0 :: rest) hkind hlength hroom).trans ?_)
      have hjob : submitJob kind (b :: tag :: b1 :: b0 :: rest) s.clock.time =
          { jobTag := tag, budget := budget, arrival := s.clock.time, lapsed := false, body := body } := by
        rw [← hbody]
        rfl
      rw [hjob]
      rfl
    refine ⟨fun tagId g nt h1 h2 h3 => ?_, fun handle mac h => ?_, fun handle slot toll h => ?_⟩
    · refine hqueued 0x01 (tagId ++ g ++ nt) .answer _ rfl (by simp [submitLength, h1, h2, h3]) ?_
      have htag := field_eq (start := 4) (payload := 0x01 :: tag :: b1 :: b0 :: (tagId ++ g ++ nt)) (before := [0x01, tag, b1, b0])
        (bytes := tagId) (after := g ++ nt) (by simp) rfl h1
      have hg := field_eq (payload := 0x01 :: tag :: b1 :: b0 :: (tagId ++ g ++ nt)) (before := [0x01, tag, b1, b0] ++ tagId)
        (bytes := g) (after := nt) (by simp) (by simp [h1] : _ = 12) h2
      have hnt := field_eq (payload := 0x01 :: tag :: b1 :: b0 :: (tagId ++ g ++ nt))
        (before := [0x01, tag, b1, b0] ++ tagId ++ g) (bytes := nt) (after := []) (by simp) (by simp [h1, h2] : _ = 14) h3
      simp only [submitBody, htag, hg, hnt]
    · refine hqueued 0x02 (handle :: mac) .verify _ rfl (by simp [submitLength, h]) ?_
      have hmac := field_eq (start := 5) (payload := 0x02 :: tag :: b1 :: b0 :: handle :: mac) (before := [0x02, tag, b1, b0, handle])
        (bytes := mac) (after := []) (by simp) rfl h
      simp only [submitBody, hmac]
      rfl
    · refine hqueued 0x03 (handle :: slot :: toll) .seal _ rfl (by simp [submitLength, h]) ?_
      have htoll := field_eq (start := 6) (payload := 0x03 :: tag :: b1 :: b0 :: handle :: slot :: toll)
        (before := [0x03, tag, b1, b0, handle, slot]) (bytes := toll) (after := []) (by simp) rfl h
      simp only [submitBody, htoll]
      rfl
  case refused =>
    intro right
    refine ⟨fun hbad => exec_submit hp hlen ?_, fun h1 h3 hwrong => exec_submit hp hlen ?_,
      fun hright hfull => exec_submit hp hlen ?_⟩
    · have hkind : jobKindOf (byteAt (kind :: rest) 0) = none := jobKindOf_none hbad
      simp only [submitRule, hkind]
      rfl
    · rcases jobKindOf_some h1 h3 with ⟨hb, hkind⟩ | ⟨hb, hkind⟩ | ⟨hb, hkind⟩
      · exact submitRule_badLength hkind fun h => hwrong (.inl ⟨hb, Nat.succ.inj h⟩)
      · exact submitRule_badLength hkind fun h => hwrong (.inr (.inl ⟨hb, Nat.succ.inj h⟩))
      · exact submitRule_badLength hkind fun h => hwrong (.inr (.inr ⟨hb, Nat.succ.inj h⟩))
    · rcases hright with ⟨rfl, hn⟩ | ⟨rfl, hn⟩ | ⟨rfl, hn⟩
      · exact submitRule_full (kind := .answer) rfl (congrArg Nat.succ hn) hfull
      · exact submitRule_full (kind := .verify) rfl (congrArg Nat.succ hn) hfull
      · exact submitRule_full (kind := .seal) rfl (congrArg Nat.succ hn) hfull

/-! ### The lapse of a deadline -/

theorem getElem?_middle {α : Type} (before : List α) (x : α) (after : List α) :
    (before ++ x :: after)[before.length]? = some x := by simp

theorem modify_middle {α : Type} (before : List α) (x : α) (after : List α) (f : α → α) :
    (before ++ x :: after).modify before.length f = before ++ f x :: after := by
  induction before with
  | nil => rfl
  | cons a before ih => exact congrArg (a :: ·) ih

/-- Settles O29: the lapse finds its job at its place and marks it, or ends it at the head of a lane in counter wait. -/
theorem deadlinesLapse : Obligations.DeadlinesLapse := by
  unfold Obligations.DeadlinesLapse
  intro s l before after j place hrun hjobs hplace hbudget hlapsed due
  have hfound : (s.lane l).jobs[place.val]? = some j := by rw [hjobs, hplace, getElem?_middle]
  have hexec : exec (.jobLapse l place) s = .next (due.setLane l ((s.lane l).lapse place.val)) := by
    change execJobLapse l place s = _
    simp only [execJobLapse, hfound, hrun, hbudget, hlapsed, and_self, if_true, State.lane_wait]
    rfl
  refine ⟨fun hnot => ?_, fun hwait hempty => ?_⟩
  · have hlapse : (s.lane l).lapse place.val =
        { s.lane l with jobs := before ++ { j with lapsed := true } :: after } := by
      have hcond : ((s.lane l).counterWait && place.val == 0) = false := by
        rcases hnot with h | h
        · rw [h]; rfl
        · rw [hplace]
          cases before with
          | nil => exact absurd rfl h
          | cons => simp
      unfold Lane.lapse
      rw [hcond, hjobs, hplace, modify_middle]
      rfl
    rw [hexec, hlapse]
  · subst hempty
    have hlapse : (s.lane l).lapse place.val = { (s.lane l).endHead .expired with counterWait := false } := by
      unfold Lane.lapse
      rw [hwait, hplace]
      rfl
    rw [hexec, hlapse, Lane.endHead, hjobs]
    rfl

/-! ### The arbiter -/

/-- In a list that lists every requester once in the order of their turns, the first of a kind is the one with the least turn. -/
theorem find?_eq_some_iff_least {α : Type} {L : List α} {turn : α → Nat} (horder : L.Pairwise fun a b => turn a < turn b)
    (hall : ∀ a, a ∈ L) (e : α → Bool) (p : α) :
    L.find? e = some p ↔ e p = true ∧ ∀ q, e q = true → turn p ≤ turn q := by
  constructor
  · intro h
    obtain ⟨hp, before, after, rfl, hbefore⟩ := List.find?_eq_some_iff_append.mp h
    refine ⟨hp, fun q hq => ?_⟩
    obtain ⟨-, hlater, -⟩ := List.pairwise_append.mp horder
    rcases List.mem_append.mp (hall q) with hmem | hmem
    · exact absurd hq (by simpa using hbefore q hmem)
    · rcases List.mem_cons.mp hmem with rfl | hmem
      · exact Nat.le_refl _
      · exact Nat.le_of_lt ((List.pairwise_cons.mp hlater).1 q hmem)
  · rintro ⟨hp, hleast⟩
    obtain ⟨q, hq⟩ := Option.isSome_iff_exists.mp (List.find?_isSome.mpr ⟨p, hall p, hp⟩)
    obtain ⟨heq, before, after, rfl, hbefore⟩ := List.find?_eq_some_iff_append.mp hq
    rcases List.mem_append.mp (hall p) with hmem | hmem
    · exact absurd hp (by simpa using hbefore p hmem)
    · rcases List.mem_cons.mp hmem with rfl | hmem
      · exact hq
      · have hlt := (List.pairwise_cons.mp (List.pairwise_append.mp horder).2.1).1 p hmem
        exact absurd (hleast q heq) (Nat.not_le.mpr hlt)

/-- The turn of a requester after the one last granted (R74). -/
def turnAfter (last q : Port) : Nat := (requesterPlace q + 4 - requesterPlace last) % 5

theorem examined_ordered (last : Port) : (examined last).Pairwise fun a b => turnAfter last a < turnAfter last b := by
  cases last with
  | site => decide
  | lane l => revert l; decide

theorem mem_examined (last q : Port) : q ∈ examined last := by
  have hlanes : ∀ l k : LaneIx, Port.lane k ∈ examined (.lane l) ∧ Port.site ∈ examined (.lane l) ∧
    Port.lane k ∈ examined .site ∧ Port.site ∈ examined .site := by decide
  cases last with
  | site => cases q with
    | site => exact (hlanes 0 0).2.2.2
    | lane k => exact (hlanes 0 k).2.2.1
  | lane l => cases q with
    | site => exact (hlanes l 0).2.1
    | lane k => exact (hlanes l k).1

/-- Settles O30: the order of examination is the order of the turns. -/
theorem grantsGoRoundInOrder : Obligations.GrantsGoRoundInOrder := by
  unfold Obligations.GrantsGoRoundInOrder
  refine ⟨fun s p => ?_, fun s => ?_, fun s l => ?_, fun s hwork => ?_⟩
  · intro place turn
    have hplace : ∀ q, place q = requesterPlace q := fun q => by cases q <;> rfl
    have hturn : turn = turnAfter s.cipher.lastGranted := by
      funext q
      simp only [turn, hplace]
      rfl
    rw [hturn]
    exact find?_eq_some_iff_least (examined_ordered _) (mem_examined _) s.eligible p
  · unfold State.nextGrant
    rw [List.find?_eq_none]
    simp only [mem_examined, true_implies, Bool.not_eq_true]
  · have hroom : decide ((s.lane l).results.length < Config.resultRoom) = true ↔ (s.lane l).results.length < 8 :=
      decide_eq_true_iff
    have hjobs : (!(s.lane l).jobs.isEmpty) = true ↔ (s.lane l).jobs ≠ [] := by simp
    simp only [State.eligible, Lane.eligible, Bool.and_eq_true, hroom, hjobs, Bool.not_eq_true', and_assoc]
  · unfold State.eligible State.preparing
    cases ha : s.engine.active with
    | none => simp
    | some a =>
      obtain ⟨op, left⟩ := a
      cases op <;> simp

end Sys2Proof.Machine

/-! PROOFS. What a grant does: the checks at the dispatch of a job, the entry of an ANSWER, a VERIFY and a SEAL into the cipher
engine, and the unwrap of a LOAD (R49 to R57, R76 to R79, R92, R97, R102, R109 to R117, R134 to R136). -/

namespace Sys2Proof.Machine

/-! ### The dispatch of the head job -/

section
variable {s : State} {l : LaneIx} {j : Job} {rest : List Job}

/-- The head job leaves its queue with a result code. -/
theorem State.endAtDispatch_eq (hjobs : (s.lane l).jobs = j :: rest) (code : Code) :
    s.endAtDispatch l code = s.setLane l { s.lane l with
      jobs := rest, results := (s.lane l).results ++
        [({ jobTag := j.jobTag, kind := j.body.kind, code := code, extra := .none } : Result)] } := by
  unfold State.endAtDispatch Lane.endHead
  rw [hjobs]
  rfl

theorem State.takeHead_eq (hjobs : (s.lane l).jobs = j :: rest) :
    s.takeHead l = s.setLane l { s.lane l with jobs := rest } := by
  unfold State.takeHead
  rw [hjobs]
  rfl

theorem State.dispatch_lapsed (hjobs : (s.lane l).jobs = j :: rest) (hl : j.lapsed = true) :
    s.dispatch l = s.endAtDispatch l .expired := by
  unfold State.dispatch
  rw [hjobs]
  exact if_pos hl

theorem State.dispatch_live (hjobs : (s.lane l).jobs = j :: rest) (hl : j.lapsed = false) :
    s.dispatch l = match j.body with
      | .answer a => s.enterAnswer l j a
      | .verify v => s.dispatchVerify l j v
      | .seal k => s.dispatchSeal l j k := by
  unfold State.dispatch
  rw [hjobs]
  exact if_neg (by rw [hl]; exact Bool.false_ne_true)

theorem State.dispatch_answer (hjobs : (s.lane l).jobs = j :: rest) (hl : j.lapsed = false) {a : AnswerJob}
    (hb : j.body = .answer a) : s.dispatch l = s.enterAnswer l j a := by
  rw [State.dispatch_live hjobs hl, hb]

theorem State.dispatch_verify (hjobs : (s.lane l).jobs = j :: rest) (hl : j.lapsed = false) {v : VerifyJob}
    (hb : j.body = .verify v) : s.dispatch l = s.dispatchVerify l j v := by
  rw [State.dispatch_live hjobs hl, hb]

theorem State.dispatch_seal (hjobs : (s.lane l).jobs = j :: rest) (hl : j.lapsed = false) {k : SealJob}
    (hb : j.body = .seal k) : s.dispatch l = s.dispatchSeal l j k := by
  rw [State.dispatch_live hjobs hl, hb]

/-- A grant to a lane dispatches its head job. -/
theorem exec_grant_lane (hp : s.power = .running) (hw : s.cipher.work = none) (hn : s.nextGrant = some (.lane l)) :
    exec .grant s = .next ((s.granted (.lane l)).dispatch l) := execGrant_lane s hp hw hn

end

/-- The receipt slot that a SEAL names, when it serves (R109). -/
theorem State.receiptSlot_eq_some_iff (s : State) (l : LaneIx) (b : Byte) (i : SlotIx) :
    s.receiptSlot l b = some i ↔ b.toNat = i.val ∧ s.inRing i = false ∧ (s.slot i).state = .loaded ∧
      ∃ f, (s.slot i).fields = some f ∧ f.usage = .receipt ∧ f.laneMask.getLsbD l.val = true := by
  have hserves : ∀ k : SlotIx, (s.areaOf k != .ring && (s.slot k).serves .receipt && (s.slot k).allows l) = true ↔
      s.inRing k = false ∧ (s.slot k).state = .loaded ∧
        ∃ f, (s.slot k).fields = some f ∧ f.usage = .receipt ∧ f.laneMask.getLsbD l.val = true := by
    intro k
    unfold Slot.serves Slot.allows Slot.usage State.inRing
    cases (s.slot k).fields <;> simp [and_assoc]
  unfold State.receiptSlot slotIndexOf
  by_cases hb : b.toNat < 64
  · rw [dif_pos hb]
    dsimp only
    split
    · rename_i h
      rw [hserves] at h
      constructor
      · intro heq
        cases heq
        exact ⟨rfl, h⟩
      · rintro ⟨heq, -⟩
        exact congrArg some (Fin.ext heq)
    · rename_i h
      rw [hserves] at h
      refine ⟨(nomatch ·), fun ⟨heq, hi⟩ => absurd ?_ h⟩
      obtain rfl : (⟨b.toNat, hb⟩ : SlotIx) = i := Fin.ext heq
      exact hi
  · rw [dif_neg hb]
    refine ⟨(nomatch ·), fun ⟨heq, _⟩ => absurd i.isLt ?_⟩
    omega

/-- Settles O31: the dispatch takes the first check that fails. -/
theorem jobsEndAtDispatch : Obligations.JobsEndAtDispatch := by
  unfold Obligations.JobsEndAtDispatch
  intro s l j rest hp hw hn hjobs ended
  have hjobs' : ((s.granted (.lane l)).lane l).jobs = j :: rest := hjobs
  have hends : ∀ code, (s.granted (.lane l)).dispatch l = (s.granted (.lane l)).endAtDispatch l code → ended code := by
    intro code hd
    refine (exec_grant_lane hp hw hn).trans ?_
    rw [hd, State.endAtDispatch_eq hjobs']
    rfl
  refine ⟨fun hl => hends _ (State.dispatch_lapsed hjobs' hl), fun hl v hb => ?_, fun hl k hb => ?_⟩
  · have hd := State.dispatch_verify hjobs' hl hb
    refine ⟨fun hc => hends _ (hd.trans ?_), fun x hc hx => hends _ (hd.trans ?_)⟩
    · have hc' : ((s.granted (.lane l)).lane l).current v.handle = none := hc
      simp only [State.dispatchVerify, hc']
    · have hc' : ((s.granted (.lane l)).lane l).current v.handle = some x := hc
      simp only [State.dispatchVerify, hc', hx, if_true]
  · have hd := State.dispatch_seal hjobs' hl hb
    refine ⟨fun hc => hends _ (hd.trans ?_), fun x hc hx => hends _ (hd.trans ?_), fun x hc hx => ?_⟩
    · have hc' : ((s.granted (.lane l)).lane l).current k.handle = none := hc
      simp only [State.dispatchSeal, hc']
    · have hc' : ((s.granted (.lane l)).lane l).current k.handle = some x := hc
      simp only [State.dispatchSeal, hc', hx, if_true]
    · intro serves
      have hc' : ((s.granted (.lane l)).lane l).current k.handle = some x := hc
      have hslot : ∀ i, (s.granted (.lane l)).receiptSlot l k.receiptSlot = some i ↔ serves i :=
        fun i => State.receiptSlot_eq_some_iff (s.granted (.lane l)) l k.receiptSlot i
      refine ⟨fun hno => hends _ (hd.trans ?_), fun i hi hcounter => hends _ (hd.trans ?_), fun i hi hcounter => hends _ (hd.trans ?_)⟩
      · have hnone : (s.granted (.lane l)).receiptSlot l k.receiptSlot = none :=
          Option.eq_none_iff_forall_ne_some.mpr fun i h => hno i ((hslot i).mp h)
        simp only [State.dispatchSeal, hc', hx, Bool.true_eq_false, if_false, hnone]
      · have hcounter' : (s.granted (.lane l)).counter.state = .unset := hcounter
        simp only [State.dispatchSeal, hc', hx, Bool.true_eq_false, if_false, (hslot i).mpr hi, State.counterCheck, hcounter']
      · have hcounter' : (s.granted (.lane l)).counter.state = .exhausted := hcounter
        simp only [State.dispatchSeal, hc', hx, Bool.true_eq_false, if_false, (hslot i).mpr hi, State.counterCheck, hcounter']

/-! ### An ANSWER or a VERIFY enters the cipher engine -/

/-- Resolution reads the ring and the working image alone. -/
theorem State.resolve_takeHead (s : State) (l : LaneIx) (g : Gen) : (s.takeHead l).resolve l g = s.resolve l g := by
  unfold State.takeHead State.setLane
  rfl

theorem State.resolve_granted (s : State) (p : Port) (l : LaneIx) (g : Gen) : (s.granted p).resolve l g = s.resolve l g := rfl

theorem zero_append_gen (g : Gen) : (0#4 ++ g : BitVec (4 + 12)) = g.setWidth 16 := by
  apply BitVec.eq_of_toNat_eq
  rw [BitVec.toNat_append, BitVec.toNat_setWidth, Nat.mod_eq_of_lt (Nat.lt_trans g.isLt (by decide))]
  simp

theorem derivationBlock_eq (tagId : BitVec 64) (g : Gen) :
    derivationBlock tagId g = tagId ++ (g.setWidth 16 : BitVec 16) ++ (0x544B00000001 : BitVec 48) := by
  unfold derivationBlock
  rw [zero_append_gen]
  rfl

/-- A cache with one entry of a tag under a generation is looked up and touched at that entry (R57). -/
theorem cacheFind_touch {tagId : BitVec 64} {g : Gen} {before after : List CacheEntry} {e : CacheEntry}
    (htag : e.tagId = tagId) (hg : e.generation = g) (hothers : ∀ x ∈ before ++ after, ¬(x.tagId = tagId ∧ x.generation = g)) :
    cacheFind tagId g (before ++ e :: after) = some e ∧ cacheTouch e (before ++ e :: after) = before ++ after ++ [e] := by
  subst htag hg
  have hkeeps : ∀ x ∈ before ++ after, (x.tagId == e.tagId && x.generation == e.generation) = false := by
    intro x hx
    simpa using hothers x hx
  constructor
  · refine List.find?_eq_some_iff_append.mpr ⟨by simp, before, after, rfl, fun x hx => ?_⟩
    rw [hkeeps x (List.mem_append_left _ hx)]
    rfl
  · unfold cacheTouch cacheRemove
    rw [List.filter_append, List.filter_cons_of_neg (by simp), ← List.filter_append, List.filter_eq_self.mpr]
    intro x hx
    rw [hkeeps x hx]
    rfl

theorem cacheFind_none {tagId : BitVec 64} {g : Gen} {cache : List CacheEntry}
    (h : ∀ x ∈ cache, ¬(x.tagId = tagId ∧ x.generation = g)) : cacheFind tagId g cache = none := by
  refine List.find?_eq_none.mpr fun x hx => ?_
  simpa using h x hx

section
variable {s : State} {l : LaneIx} {j : Job} {rest : List Job} {a : AnswerJob}

/-- An ANSWER that resolution ends (R52). -/
theorem State.enterAnswer_ended {code : Code} (h : s.resolve l a.gen = .error code) :
    s.enterAnswer l j a = (s.takeHead l).enter (.lane l) 0 (.answerEnded j.jobTag a code) := by
  unfold State.enterAnswer
  dsimp only
  rw [State.resolve_takeHead, h]

/-- An ANSWER whose tag key is in the cache (R57). -/
theorem State.enterAnswer_hit {i : SlotIx} {e : CacheEntry} (h : s.resolve l a.gen = .ok i)
    (hfind : cacheFind a.tagId a.gen s.cache = some e) :
    s.enterAnswer l j a = ({ s.takeHead l with draws := s.draws + 1, cache := cacheTouch e s.cache }).enter (.lane l) 1
      (.answer j.jobTag a i (s.slot i).key true e.kt (Config.readerNonce s.draws)
        (tagProof e.kt a.nt (Config.readerNonce s.draws))) := by
  have hfind' : cacheFind a.tagId a.gen (s.takeHead l).cache = some e := hfind
  unfold State.enterAnswer
  dsimp only
  rw [State.resolve_takeHead, h]
  dsimp only
  rw [hfind']
  rfl

/-- An ANSWER whose tag key is derived (R55). -/
theorem State.enterAnswer_miss {i : SlotIx} (h : s.resolve l a.gen = .ok i)
    (hfind : cacheFind a.tagId a.gen s.cache = none) :
    s.enterAnswer l j a = ({ s.takeHead l with draws := s.draws + 1 }).enter (.lane l) 2
      (.answer j.jobTag a i (s.slot i).key false (tagKey (s.slot i).key a.tagId a.gen) (Config.readerNonce s.draws)
        (tagProof (tagKey (s.slot i).key a.tagId a.gen) a.nt (Config.readerNonce s.draws))) := by
  have hfind' : cacheFind a.tagId a.gen (s.takeHead l).cache = none := hfind
  unfold State.enterAnswer
  dsimp only
  rw [State.resolve_takeHead, h]
  dsimp only
  rw [hfind']
  rfl

end

/-- Settles O33: the three ways of an ANSWER into the engine, and the one of a VERIFY. -/
theorem answersAndVerifiesEnter : Obligations.AnswersAndVerifiesEnter := by
  unfold Obligations.AnswersAndVerifiesEnter
  refine ⟨fun s l j rest a hp hw hn hjobs hl hb => ?answers, fun s l j rest v x hp hw hn hjobs hl hb hc hx => ?verifies⟩
  case answers =>
    intro g nr enters
    have hjobs' : ((s.granted (.lane l)).lane l).jobs = j :: rest := hjobs
    have hexec := (exec_grant_lane hp hw hn).trans (congrArg _ (State.dispatch_answer hjobs' hl hb))
    have htake := State.takeHead_eq hjobs'
    refine ⟨fun code h => ?_, fun i h => ⟨fun before e after hcache htag hg hothers => ?_, fun hothers => ?_⟩⟩
    · refine hexec.trans ?_
      rw [State.enterAnswer_ended (s := s.granted (.lane l)) h, htake]
      rfl
    · obtain ⟨hfind, htouch⟩ := cacheFind_touch htag hg hothers
      rw [← hcache] at hfind htouch
      refine hexec.trans ?_
      rw [State.enterAnswer_hit (s := s.granted (.lane l)) h hfind, htake]
      have hcache' : cacheTouch e (s.granted (.lane l)).cache = before ++ after ++ [e] := htouch
      rw [hcache']
      rfl
    · intro kt
      refine hexec.trans ?_
      rw [State.enterAnswer_miss (s := s.granted (.lane l)) h (cacheFind_none hothers), htake]
      have hkt : tagKey ((s.granted (.lane l)).slot i).key a.tagId a.gen = kt := by
        unfold tagKey
        rw [derivationBlock_eq]
        rfl
      rw [hkt]
      rfl
  case verifies =>
    have hjobs' : ((s.granted (.lane l)).lane l).jobs = j :: rest := hjobs
    have hc' : ((s.granted (.lane l)).lane l).current v.handle = some x := hc
    refine (exec_grant_lane hp hw hn).trans ?_
    rw [State.dispatch_verify hjobs' hl hb]
    simp only [State.dispatchVerify, hc', hx, Bool.false_eq_true, if_false, State.takeHead_eq hjobs']
    rfl

/-! ### A SEAL takes its number -/

section
variable (s : State)

/-- The last number of all leaves the counter EXHAUSTED (R116). -/
theorem State.issueNumber_last (htop : s.counter.next + 1 = 4294967295) (hlimit : s.counter.limit = 4294967295) :
    s.issueNumber = { s with counter := { s.counter with next := s.counter.next + 1, state := .exhausted },
                             site := { s.site with flags := s.site.flags ||| SiteFlag.counter.bit } } := by
  have hlast : s.counter.next + 1 = Config.counterTop ∧ s.counter.next + 1 = s.counter.limit := ⟨htop, htop.trans hlimit.symm⟩
  unfold State.issueNumber
  exact if_pos hlast

/-- Any other number leaves the low-water condition to be examined (R116, R117). -/
theorem State.issueNumber_more (hmore : s.counter.next + 1 < 4294967295) :
    s.issueNumber = ({ s with counter := { s.counter with next := s.counter.next + 1 } }).examineLowWater := by
  have hnot : ¬(s.counter.next + 1 = Config.counterTop ∧ s.counter.next + 1 = s.counter.limit) :=
    fun h => absurd h.1 (Nat.ne_of_lt hmore)
  unfold State.issueNumber
  exact if_neg hnot

theorem State.examineLowWater_low (h : s.counter.lowWater = true) : s.examineLowWater = s.requestReservation := if_pos h

theorem State.examineLowWater_high (h : ¬s.counter.lowWater = true) : s.examineLowWater = s := if_neg h

theorem Counter.lowWater_iff (c : Counter) : c.lowWater = true ↔ c.state = .running ∧ c.limit - c.next ≤ 1024 ∧
    c.limit < 4294967295 ∧ c.reserving = false ∧ c.setting = false := by
  have hlow : decide (c.limit - c.next ≤ Config.lowWater) = true ↔ c.limit - c.next ≤ 1024 := decide_eq_true_iff
  have htop : decide (c.limit < Config.counterTop) = true ↔ c.limit < 4294967295 := decide_eq_true_iff
  simp only [Counter.lowWater, Bool.and_eq_true, hlow, htop, beq_iff_eq, Bool.not_eq_true', and_assoc]

theorem State.setLane_issued (l : LaneIx) (x y : Lane) (site : Site) (counter : Counter) (engine : WriteEngine) :
    ({ s.setLane l x with site := site, counter := counter, engine := engine } : State).setLane l y =
      { s.setLane l y with site := site, counter := counter, engine := engine } := by
  unfold State.setLane
  simp

end

/-- A SEAL that enters the engine, from what the issue of its number makes (R102, R111). -/
theorem State.enterSeal_eq {s : State} {l : LaneIx} {j : Job} {rest : List Job} {k : SealJob} {x : Session} {i : SlotIx}
    {site : Site} {counter : Counter} {engine : WriteEngine} (hjobs : (s.lane l).jobs = j :: rest)
    (hissued : (s.takeHead l).issueNumber =
      { s.takeHead l with site := site, counter := counter, engine := engine }) :
    s.enterSeal l j k x i = { (s.setLane l { s.lane l with
        jobs := rest, sessions := (s.lane l).sessions.set (handleEntry k.handle)
          { (s.lane l).sessions[handleEntry k.handle] with session := none } }) with
      site := site, counter := counter, engine := engine,
      cipher := { s.cipher with work := some {
        requester := .lane l, detached := false, left := 20,
        task := .seal j.jobTag k x.tagId x.generation s.counter.next (s.slot i).key } } } := by
  unfold State.enterSeal
  dsimp only
  rw [hissued, State.takeHead_eq hjobs]
  have hlane : ∀ site counter engine, ({ s.setLane l { s.lane l with jobs := rest } with
      site := site, counter := counter, engine := engine } : State).lane l = { s.lane l with jobs := rest } := by
    intro site counter engine
    exact (State.lane_setLane s l l _).trans (if_pos rfl)
  rw [hlane, State.setLane_issued]
  rfl

section
variable {s : State} {l : LaneIx} {j : Job} {k : SealJob} {x : Session} {i : SlotIx}

/-- A SEAL whose session and receipt slot pass comes to its counter check. -/
theorem State.dispatchSeal_counter (hc : (s.lane l).current k.handle = some x) (hx : x.verified = true)
    (hslot : s.receiptSlot l k.receiptSlot = some i) : s.dispatchSeal l j k = s.counterCheck l j k x i := by
  simp only [State.dispatchSeal, hc, hx, Bool.true_eq_false, if_false, hslot]

theorem State.counterCheck_running {u : State} (hu : u.counter = s.counter) (hrun : s.counter.state = .running) :
    u.counterCheck l j k x i =
      if s.counter.setting = true then u.enterCounterWait l
      else if s.counter.next < s.counter.limit then u.enterSeal l j k x i
      else if s.counter.reserving = true then u.enterCounterWait l
      else u.requestReservation.enterCounterWait l := by
  simp only [State.counterCheck, hu, hrun]

end

/-- Settles O34: the counter check of a SEAL, by what is left of the numbers. -/
theorem sealsTakeTheNextNumber : Obligations.SealsTakeTheNextNumber := by
  unfold Obligations.SealsTakeTheNextNumber
  refine ⟨fun s l j rest k x i hp hw hn hjobs hl hb hc hx hslot hrun hset hfree htop => ?takes,
    fun s l j rest k x i hp hw hn hjobs hl hb hc hx hslot hrun => ?waits⟩
  case takes =>
    intro c work taken low
    have hjobs' : ((s.granted (.lane l)).lane l).jobs = j :: rest := hjobs
    have hexec : exec .grant s = .next ((s.granted (.lane l)).enterSeal l j k x i) := by
      refine (exec_grant_lane hp hw hn).trans (congrArg _ ?_)
      rw [State.dispatch_seal hjobs' hl hb, State.dispatchSeal_counter (s := s.granted (.lane l)) hc hx hslot, State.counterCheck_running (s := s) (u := s.granted (.lane l)) rfl hrun,
        hset, if_neg Bool.false_ne_true, if_pos hfree]
    have hlow : c.lowWater = true ↔ low := by
      rw [Counter.lowWater_iff]
      exact ⟨fun ⟨_, h1, h2, h3, _⟩ => ⟨h1, h2, h3⟩, fun ⟨h1, h2, h3⟩ => ⟨hrun, h1, h2, h3, hset⟩⟩
    refine ⟨fun hlast => ?_, fun hmore hlow' => ?_, fun hmore hlow' => ?_⟩
    · have hlimit : s.counter.limit = 4294967295 := Nat.le_antisymm htop (by omega)
      have hissued := State.issueNumber_last ((s.granted (.lane l)).takeHead l) hlast hlimit
      rw [hexec, State.enterSeal_eq hjobs' hissued]
      rfl
    · have hissued : ((s.granted (.lane l)).takeHead l).issueNumber =
          { (s.granted (.lane l)).takeHead l with counter := c } :=
        (State.issueNumber_more ((s.granted (.lane l)).takeHead l) hmore).trans (State.examineLowWater_high _ ((not_congr hlow).mpr hlow'))
      rw [hexec, State.enterSeal_eq hjobs' hissued]
      rfl
    · have hissued : ((s.granted (.lane l)).takeHead l).issueNumber = _ :=
        (State.issueNumber_more ((s.granted (.lane l)).takeHead l) hmore).trans (State.examineLowWater_low _ (hlow.mpr hlow'))
      rw [hexec, State.enterSeal_eq hjobs' hissued]
      rfl
  case waits =>
    intro counterSet waiting
    have hjobs' : ((s.granted (.lane l)).lane l).jobs = j :: rest := hjobs
    have hexec : exec .grant s = .next ((s.granted (.lane l)).counterCheck l j k x i) := by
      refine (exec_grant_lane hp hw hn).trans (congrArg _ ?_)
      rw [State.dispatch_seal hjobs' hl hb, State.dispatchSeal_counter (s := s.granted (.lane l)) hc hx hslot]
    have hcheck := hexec.trans (congrArg _ (State.counterCheck_running (s := s) (u := s.granted (.lane l)) rfl hrun))
    refine ⟨fun h => ?_, fun hset hnone hreserving => ?_⟩
    · refine hcheck.trans (congrArg _ ?_)
      rcases h with hset | ⟨hnone, hreserving⟩
      · rw [if_pos hset]
        rfl
      · rw [if_neg (Nat.not_lt.mpr hnone), if_pos hreserving]
        split <;> rfl
    · refine hcheck.trans (congrArg _ ?_)
      rw [hset, hreserving, if_neg Bool.false_ne_true, if_neg (Nat.not_lt.mpr hnone), if_neg Bool.false_ne_true]
      rfl

/-! ### The unwrap of a LOAD -/

theorem State.preparing_of_active {s : State} {load : Load} {left : Nat}
    (ha : s.engine.active = some { op := .load load, remaining := left }) : s.preparing = some load := by
  unfold State.preparing
  rw [ha]

/-- The key of a LOAD: the wrapped block under its transport key, or the wrapped block itself (R134). -/
def loadKey (load : Load) (kx : Option Block) : Block :=
  match kx with
  | some k => unwrapped k load.wrapped load.iv
  | none => load.wrapped

/-- The state in which the cipher engine has come free, at the end of an unwrap's occupancy. -/
def State.unwrapEnd (s : State) (left : Nat) : State :=
  { s.elapse left with cipher := { (s.elapse left).cipher with work := none } }

/-- The end of an unwrap compares the check value of the key with the KCV (R134 to R136). -/
theorem execUnwrapCompletion_of_work {s : State} {w : Work} {load : Load} {kx : Option Block} (hw : s.cipher.work = some w)
    (ht : w.task = .unwrap load kx) :
    execUnwrapCompletion s =
      if checkValueOf (loadKey load kx) = load.kcv then .next ((s.unwrapEnd w.left).beginProgram load (loadKey load kx))
      else .next ((s.unwrapEnd w.left).endOp.outcome .program (.slot load.slot) .kcvMismatch false) := by
  obtain ⟨requester, detached, left, task⟩ := w
  cases ht
  cases kx with
  | none => simp only [execUnwrapCompletion, hw, loadKey]; rfl
  | some k => simp only [execUnwrapCompletion, hw, loadKey]; rfl

/-- Settles O35: the transport slot decides the grant, and the check value the completion. -/
theorem unwrapsOfLoads : Obligations.UnwrapsOfLoads := by
  unfold Obligations.UnwrapsOfLoads
  refine ⟨fun s load left hp hw hn ha => ?granted, fun s w load kx hw ht => ?completed⟩
  case granted =>
    intro begins
    have hexec : exec .grant s = .next (s.granted .site).grantSite := execGrant_site s hp hw hn
    have hpreparing : (s.granted .site).preparing = some load := State.preparing_of_active ha
    refine ⟨fun htransport => ?_, fun i htransport => ⟨fun hserves => ?_, fun hserves => ?_⟩⟩
    · refine hexec.trans ?_
      simp only [State.grantSite, hpreparing, htransport]
      rfl
    · have hserves' : ((s.granted .site).slot i).serves .transport = true := hserves
      refine hexec.trans ?_
      simp only [State.grantSite, hpreparing, htransport, hserves', if_true]
      rfl
    · have hserves' : ((s.granted .site).slot i).serves .transport = false := hserves
      refine hexec.trans ?_
      simp only [State.grantSite, hpreparing, htransport, hserves', Bool.false_eq_true, if_false]
      rfl
  case completed =>
    intro due freed key i programming begun
    have hkey : loadKey load kx = key := by cases kx <;> rfl
    have hexec : exec .unwrapCompletion s = _ := execUnwrapCompletion_of_work hw ht
    rw [hkey, checkValueOf, firstThree] at hexec
    have hstore : due.store = s.store := s.elapse_store w.left
    have harray : due.array = s.array := s.elapse_array w.left
    have hsite : due.site = s.site := s.elapse_site w.left
    rw [← hstore, ← harray, ← hsite]
    refine ⟨fun hkcv => ?_, fun hkcv => ?_⟩
    · rw [hexec, if_pos hkcv]
      rfl
    · rw [hexec, if_neg hkcv]
      rfl

end Sys2Proof.Machine

/-! PROOFS. The completions of the cipher engine, and the lifetime of a session (R52, R58, R59, R80, R86, R93 to R101, R112, R113). -/

namespace Sys2Proof.Machine

/-! ### VERIFY, SEAL, and an ANSWER that resolution ended -/

/-- The result of a job whose lane no longer wants it is discarded. -/
theorem State.deliver_detached (s : State) (l : LaneIx) (r : Result) : s.deliver l true r = s := rfl

theorem State.deliver_attached (s : State) (l : LaneIx) (r : Result) :
    s.deliver l false r = s.setLane l ((s.lane l).pushResult r) := rfl

theorem receiptHead_eq (tagId : BitVec 64) (g : Gen) (l : LaneIx) (number : Nat) :
    receiptHead tagId g l number = tagId ++ (g.setWidth 16 : BitVec 16) ++ (numByte l.val : Byte) ++ (0 : Byte) ++
      (BitVec.ofNat 32 number : BitVec 32) := by
  unfold receiptHead
  rw [zero_append_gen]
  rfl

section
variable {s : State} {l : LaneIx} {detached : Bool} {left : Nat} {tag : Byte}

theorem exec_verifyCompletion {v : VerifyJob} {kt : Block} {nt nr : BitVec 64}
    (hw : s.cipher.work = some { requester := .lane l, detached := detached, left := left, task := .verify tag v kt nt nr }) :
    exec .verifyCompletion s = if detached then .next (s.elapse left).endWork else .next
      ((s.elapse left).setLane l ((((s.elapse left).lane l).verify v (expectedReply kt nt nr)).1.pushResult
        { jobTag := tag, kind := .verify, code := (((s.elapse left).lane l).verify v (expectedReply kt nt nr)).2,
          extra := .none })).endWork := by
  change execVerifyCompletion s = _
  unfold execVerifyCompletion
  rw [hw]

theorem exec_answerCompletion_ended {a : AnswerJob} {code : Code}
    (hw : s.cipher.work = some { requester := .lane l, detached := detached, left := left, task := .answerEnded tag a code }) :
    exec .answerCompletion s = .next ((s.elapse left).deliver l detached
      { jobTag := tag, kind := .answer, code := code, extra := .none }).endWork := by
  change execAnswerCompletion s = _
  unfold execAnswerCompletion
  rw [hw]

theorem exec_answerCompletion {a : AnswerJob} {i : SlotIx} {kg kt : Block} {hit : Bool} {nr proof : BitVec 64}
    (hw : s.cipher.work = some { requester := .lane l, detached := detached, left := left,
                                 task := .answer tag a i kg hit kt nr proof }) :
    exec .answerCompletion s = .next ((s.elapse left).finishAnswer l detached tag a i hit kt nr proof).endWork := by
  change execAnswerCompletion s = _
  unfold execAnswerCompletion
  rw [hw]

theorem exec_sealCompletion {k : SealJob} {tagId : BitVec 64} {g : Gen} {number : Nat} {kr : Block}
    (hw : s.cipher.work = some { requester := .lane l, detached := detached, left := left,
                                 task := .seal tag k tagId g number kr }) :
    exec .sealCompletion s = .next ((s.elapse left).deliver l detached
      { jobTag := tag, kind := .seal, code := .ok,
        extra := .seal number (receiptTag kr (receiptHead tagId g l number) k.toll) }).endWork := by
  change execSealCompletion s = _
  unfold execSealCompletion
  rw [hw]

end

/-- Settles O37: a detached job leaves the lane, and an attached one its result. -/
theorem verifiesAndSealsComplete : Obligations.VerifiesAndSealsComplete := by
  unfold Obligations.VerifiesAndSealsComplete
  refine ⟨⟨fun s l detached left tag v kt nt nr hw => ?verify, fun s l detached left tag a code hw => ?ended⟩,
    fun s l detached left number tag k tagId g kr hw => ?receipt⟩
  case verify =>
    intro due ended e answers
    have hlane : (s.elapse left).lane l = s.lane l := s.lane_elapse left l
    have hexec := exec_verifyCompletion hw
    rw [hlane] at hexec
    refine ⟨fun hd => ?_, fun hd => ?_⟩
    · rw [hexec, hd]
      rfl
    · have hans : ∀ x code, (s.lane l).verify v (expectedReply kt nt nr) = (x, code) → answers code x := by
        intro x code h
        refine hexec.trans ?_
        rw [h, hd]
        rfl
      refine ⟨fun hc => hans _ _ ?_, fun x hc => ⟨fun hmac => hans _ _ ?_, fun hmac => hans _ _ ?_⟩⟩
      · simp only [Lane.verify, hc]
      · simp only [Lane.verify, hc]
        exact if_pos hmac
      · simp only [Lane.verify, hc]
        exact if_neg hmac
  case ended =>
    intro due ended
    have hlane : (s.elapse left).lane l = s.lane l := s.lane_elapse left l
    have hexec := exec_answerCompletion_ended hw
    refine ⟨fun hd => ?_, fun hd => ?_⟩
    · rw [hexec, hd]
      rfl
    · rw [hexec, hd, State.deliver_attached, hlane]
      rfl
  case receipt =>
    intro due ended head receipt
    have hlane : (s.elapse left).lane l = s.lane l := s.lane_elapse left l
    have hreceipt : receiptTag kr (receiptHead tagId g l number) k.toll = receipt := by
      rw [receiptHead_eq]
      rfl
    have hexec := exec_sealCompletion hw
    rw [hreceipt] at hexec
    refine ⟨fun hd => ?_, fun hd => ?_⟩
    · rw [hexec, hd]
      rfl
    · rw [hexec, hd, State.deliver_attached, hlane]
      rfl

/-! ### ANSWER -/

/-- The cache after the insert that a derived key is offered for (R58). -/
theorem State.offerKey_eq (s : State) (hit : Bool) (tagId : BitVec 64) (g : Gen) (kt : Block) (i : SlotIx) :
    s.offerKey hit tagId g kt i = { s with
      cache := if hit = false ∧ s.ring.live = true ∧ ((s.slot i).state = .loaded ∧ (s.slot i).generation = some g) ∧
          -(s.ring.back : Int) ≤ s.slotPosition i ∧ s.slotPosition i ≤ (s.ring.ahead : Int)
        then cacheInsert { tagId := tagId, generation := g, kt := kt } s.cache else s.cache } := by
  have hcond : (!hit && s.mayInsert g i) = true ↔ hit = false ∧ s.ring.live = true ∧
      ((s.slot i).state = .loaded ∧ (s.slot i).generation = some g) ∧
      -(s.ring.back : Int) ≤ s.slotPosition i ∧ s.slotPosition i ≤ (s.ring.ahead : Int) := by
    simp only [State.mayInsert, State.inWindow, Ring.inWindow, Bool.and_eq_true, Bool.not_eq_true', beq_iff_eq, decide_eq_true_iff]
    exact ⟨fun ⟨h, ⟨⟨hl, hs⟩, hg⟩, _, hw⟩ => ⟨h, hl, ⟨hs, hg⟩, hw⟩, fun ⟨h, hl, ⟨hs, hg⟩, hw⟩ => ⟨h, ⟨⟨hl, hs⟩, hg⟩, hl, hw⟩⟩
  unfold State.offerKey
  by_cases h : (!hit && s.mayInsert g i) = true
  · rw [if_pos h, if_pos (hcond.mp h)]
  · rw [if_neg h, if_neg ((not_congr hcond).mp h)]

theorem State.elapse_position (s : State) (n : Nat) (g : Gen) : (s.elapse n).ring.position g = s.ring.position g := by
  simp only [Ring.position, State.elapse_ring_c]

theorem State.elapse_slotPosition (s : State) (n : Nat) (i : SlotIx) : (s.elapse n).slotPosition i = s.slotPosition i := by
  simp only [State.slotPosition, Ring.slotPosition, Ring.offset, State.elapse_ring_h, State.elapse_ring_back, State.elapse_store]
  rfl

/-- The first of four with the greatest value, as a scan from the left finds it. -/
theorem foldl_greatest (age : Fin 4 → Nat) (e : Fin 4) (hbefore : ∀ k < e, age k < age e) (hmost : ∀ k, age k ≤ age e) :
    ([1, 2, 3] : List (Fin 4)).foldl (fun best i => if age best < age i then i else best) 0 = e := by
  have hfirst : ∀ k : Fin 4, k = e ∨ age k < age e ∨ e < k ∧ age k ≤ age e := by
    intro k
    rcases Nat.lt_trichotomy k.val e.val with h | h | h
    · exact .inr (.inl (hbefore k h))
    · exact .inl (Fin.ext h)
    · exact .inr (.inr ⟨h, hmost k⟩)
  have h0 := hfirst 0
  have h1 := hfirst 1
  have h2 := hfirst 2
  have h3 := hfirst 3
  clear hfirst hbefore hmost
  simp only [List.foldl]
  (repeat' split) <;> match e with
    | 0 | 1 | 2 | 3 => simp_all <;> omega

theorem Lane.freeEntry_eq {x : Lane} {e : EntryIx} (hfree : (x.sessions[e]).session = none)
    (hbefore : ∀ k < e, (x.sessions[k]).session ≠ none) : x.freeEntry = some e := by
  refine (find?_eq_some_iff_least (turn := Fin.val) (by decide) (List.mem_finRange ·) _ e).mpr ⟨by rw [hfree]; rfl, fun k hk => ?_⟩
  refine Classical.byContradiction fun hlt => hbefore k (Nat.lt_of_not_le hlt) ?_
  simpa using hk

theorem Lane.freeEntry_none {x : Lane} (h : ∀ k : EntryIx, (x.sessions[k]).session ≠ none) : x.freeEntry = none :=
  List.find?_eq_none.mpr fun k _ => by simpa using h k

theorem Lane.oldestEntry_eq {x : Lane} {now : Time} {e : EntryIx}
    (hbefore : ∀ k : EntryIx, k < e → (x.sessions[k]).age now < (x.sessions[e]).age now)
    (hmost : ∀ k : EntryIx, (x.sessions[k]).age now ≤ (x.sessions[e]).age now) : x.oldestEntry now = e :=
  foldl_greatest (fun k => (x.sessions[k]).age now) e hbefore hmost

section
variable {s : State} {l : LaneIx} {tag : Byte} {a : AnswerJob} {i : SlotIx} {hit : Bool} {kt : Block} {nr proof : BitVec 64}

theorem State.finishAnswer_detached :
    s.finishAnswer l true tag a i hit kt nr proof = s.offerKey hit a.tagId a.gen kt i := by
  unfold State.finishAnswer
  exact if_neg fun h => Bool.noConfusion h.2

/-- An ANSWER whose generation no longer stands ends with its code (R93). -/
theorem State.finishAnswer_refused {code : Code} (hcode : s.answerCode a.gen i = code) (hbad : code ≠ .ok) :
    s.finishAnswer l false tag a i hit kt nr proof = (s.offerKey hit a.tagId a.gen kt i).setLane l
      (((s.offerKey hit a.tagId a.gen kt i).lane l).pushResult { jobTag := tag, kind := .answer, code := code, extra := .none }) := by
  subst hcode
  unfold State.finishAnswer
  exact if_neg fun h => hbad h.1

/-- An ANSWER whose generation stands opens a session (R94). -/
theorem State.finishAnswer_ok (hcode : s.answerCode a.gen i = .ok) {x : Lane} {e : EntryIx}
    (hopen : ((s.offerKey hit a.tagId a.gen kt i).lane l).openSession s.clock.time (answerSession a kt nr s.clock.time) = (x, e)) :
    s.finishAnswer l false tag a i hit kt nr proof = (s.offerKey hit a.tagId a.gen kt i).setLane l
      (x.pushResult { jobTag := tag, kind := .answer, code := .ok,
                      extra := .answer (handleOf e (x.sessions[e]).serial) nr proof }) := by
  obtain rfl : _ = x := congrArg Prod.fst hopen
  obtain rfl : _ = e := congrArg Prod.snd hopen
  unfold State.finishAnswer
  exact if_pos ⟨hcode, rfl⟩

end

theorem Lane.flag_sessions (x : Lane) (f : LaneFlag) : (x.flag f).sessions = x.sessions :=
  congrArg LaneView.sessions (Lane.flag_view f x)

theorem Lane.openAt_serial (x : Lane) (e : EntryIx) (v : Session) :
    ((x.openAt e v).sessions[e]).serial = (x.sessions[e]).serial + 1 := by
  simp [Lane.openAt]

/-- Settles O36: the code, the insert and the session, each by its own case. -/
theorem answersComplete : Obligations.AnswersComplete := by
  unfold Obligations.AnswersComplete
  intro s l detached hit left tag a i kg kt nr proof hw due g holds p entry others room keyed result session inside
  have hexec := exec_answerCompletion hw
  have hposition : due.ring.position a.gen = p := s.elapse_position left g
  have hlane : (due.offerKey hit a.tagId a.gen kt i).lane l = s.lane l := by
    rw [State.offerKey_eq]
    exact s.lane_elapse left l
  have hkeyed : (due.offerKey hit a.tagId a.gen kt i).endWork = keyed := by
    have hinsert : cacheInsert entry s.cache = room ++ [entry] := rfl
    rw [State.offerKey_eq]
    simp only [due, State.slot_elapse, State.elapse_slotPosition, State.elapse_ring_live, State.elapse_ring_back,
      State.elapse_ring_ahead, State.elapse_cache]
    rfl
  have hanswers : ∀ x : Lane, due.finishAnswer l false tag a i hit kt nr proof =
      (due.offerKey hit a.tagId a.gen kt i).setLane l x → detached = false →
      exec .answerCompletion s = .next (keyed.setLane l x) := by
    intro x h hd
    rw [hexec, hd, h, ← hkeyed]
    rfl
  have hcode : due.answerCode a.gen i =
      if ¬holds then .genRetired else if (s.ring.ahead : Int) < p then .tooNew
      else if p < -(s.ring.back : Int) then .tooOld else .ok := by
    have hslot : due.slot i = s.slot i := s.slot_elapse left i
    have hback : due.ring.back = s.ring.back := s.elapse_ring_back left
    have hahead : due.ring.ahead = s.ring.ahead := s.elapse_ring_ahead left
    unfold State.answerCode
    rw [hslot, hback, hahead, hposition]
    rfl
  have hrefused : ∀ code, due.answerCode a.gen i = code → code ≠ .ok → detached = false →
      exec .answerCompletion s = .next (keyed.setLane l (result code .none (s.lane l))) := by
    intro code h hbad hd
    refine hanswers _ ((State.finishAnswer_refused h hbad).trans ?_) hd
    rw [hlane]
    rfl
  have hopens : ∀ (x : Lane) (e : EntryIx), holds → inside → detached = false →
      (s.lane l).openSession due.clock.time session = (x, e) →
      exec .answerCompletion s =
        .next (keyed.setLane l (result .ok (.answer (handleOf e (x.sessions[e]).serial) nr proof) x)) := by
    intro x e hh hin hd hopen
    have hok : due.answerCode a.gen i = .ok := by
      rw [hcode, if_neg (Classical.not_not.mpr hh), if_neg (Int.not_lt.mpr hin.2), if_neg (Int.not_lt.mpr hin.1)]
    exact hanswers _ (State.finishAnswer_ok hok (by rw [hlane]; exact hopen)) hd
  refine ⟨fun hd => ?_, fun hd => ⟨fun hh => ?_, fun hh hnew => ?_, fun hh hnew hold => ?_, fun hh hin e hfree hbefore => ?_,
    fun hh hin e hfull hbefore hmost => ?_⟩⟩
  · rw [hexec, hd, State.finishAnswer_detached, hkeyed]
  · exact hrefused _ (by rw [hcode, if_pos hh]) nofun hd
  · exact hrefused _ (by rw [hcode, if_neg (Classical.not_not.mpr hh), if_pos hnew]) nofun hd
  · exact hrefused _ (by rw [hcode, if_neg (Classical.not_not.mpr hh), if_neg (Int.not_lt.mpr hnew), if_pos hold]) nofun hd
  · intro serial
    have hopen : (s.lane l).openSession due.clock.time session = ((s.lane l).openAt e session, e) := by
      unfold Lane.openSession
      rw [Lane.freeEntry_eq hfree hbefore]
    refine (hopens _ e hh hin hd hopen).trans ?_
    rw [Lane.openAt_serial]
    rfl
  · intro serial
    have hopen : (s.lane l).openSession due.clock.time session = (((s.lane l).flag .sessionLost).openAt e session, e) := by
      unfold Lane.openSession
      rw [Lane.freeEntry_none hfull, Lane.oldestEntry_eq hbefore hmost]
    refine (hopens _ e hh hin hd hopen).trans ?_
    rw [Lane.openAt_serial, Lane.openAt, Lane.flag_sessions]
    rfl

/-! ### The lifetime of a session -/

theorem Lane.flag_closeEntries (x : Lane) (p : Session → Bool) (f : LaneFlag) :
    (x.closeEntries p).flag f = { x.flag f with sessions := (x.closeEntries p).sessions } := by
  have hdisabled : (x.closeEntries p).disabled = x.disabled := rfl
  unfold Lane.flag
  rw [hdisabled]
  split <;> rfl

/-- What a lane that may lose sessions keeps: the sessions not named, the serials, and all else but SESSION_LOST. -/
theorem Lane.loseSessions_cases (x : Lane) (p : Session → Bool) :
    (∀ e : EntryIx, (∃ v, (x.sessions[e]).session = some v ∧ p v = true) →
      (x.loseSessions p).sessions[e] = { serial := (x.sessions[e]).serial, session := none }) ∧
    (∀ e : EntryIx, (¬∃ v, (x.sessions[e]).session = some v ∧ p v = true) → (x.loseSessions p).sessions[e] = x.sessions[e]) ∧
    ((∃ (e : EntryIx) (v : Session), (x.sessions[e]).session = some v ∧ p v = true) →
      x.loseSessions p = { x.flag .sessionLost with sessions := (x.loseSessions p).sessions }) ∧
    ((∀ e : EntryIx, ¬∃ v, (x.sessions[e]).session = some v ∧ p v = true) → x.loseSessions p = x) := by
  refine ⟨fun e he => ?_, fun e he => ?_, fun ⟨e, he⟩ => ?_, fun hnone => ?_⟩
  · obtain ⟨v, hv, hp⟩ := he
    rw [Lane.loseSessions_sessions]
    simp only [Entry.closeIf, hv, hp, if_true]
  · rw [Lane.loseSessions_sessions]
    unfold Entry.closeIf
    split
    · rename_i v hv
      exact if_neg fun hp => he ⟨v, hv, hp⟩
    · rfl
  · obtain ⟨v, hv, hp⟩ := he
    have hany : x.sessions.toList.any (Entry.holds p) = true := by
      refine List.any_eq_true.mpr ⟨x.sessions[e], by simp, ?_⟩
      simp only [Entry.holds, hv, hp]
    unfold Lane.loseSessions
    rw [if_pos hany, Lane.flag_sessions]
    exact Lane.flag_closeEntries x p .sessionLost
  · exact Lane.loseSessions_none _ _ fun e y hy => by
      cases hp : p y with
      | false => rfl
      | true => exact absurd ⟨y, hy, hp⟩ (hnone e)

/-- Settles O38: the lifetime event closes its own session, and SET_SESSION_LIFE those that are past the new lifetime. -/
theorem sessionLifetime : Obligations.SessionLifetime := by
  unfold Obligations.SessionLifetime
  refine ⟨fun s l e x hp hx => ?expiry, fun s b hp => ?life⟩
  case expiry =>
    intro due
    have hlane : due.lane l = s.lane l := s.lane_wait _ l
    change execSessionExpiry l e s = _
    unfold execSessionExpiry
    rw [hx]
    refine (if_pos hp).trans ?_
    rw [← hlane]
    rfl
  case life =>
    intro life
    let past := fun (x : Session) => decide (life * 1000 < elapsed x.opened s.clock.time)
    let told := ({ s with sessionLife := life } : State).mapLanes fun x => x.loseSessions past
    refine ⟨told.heard .site .ok [numByte life], ?_, ?_, fun l => ?_⟩
    · change execSetSessionLife [b] s = _
      exact State.next_heard (t := told) hp (by simp) rfl
    · unfold told State.mapLanes
      rfl
    · intro past'
      have hlane : (told.heard .site .ok [numByte life]).lane l = (s.lane l).loseSessions past := State.lane_mapLanes ..
      have hpast : ∀ e : EntryIx, past' e ↔ ∃ v, ((s.lane l).sessions[e]).session = some v ∧ past v = true := by
        intro e
        simp only [past', past, decide_eq_true_iff]
      have hcases := Lane.loseSessions_cases (s.lane l) past
      simp only [← hpast] at hcases
      rw [hlane]
      exact hcases

end Sys2Proof.Machine

/-! PROOFS. LOAD: its checks one by one and in their order, its acceptance and its refusals (R126 to R133). -/

namespace Sys2Proof.Machine

/-! ### The target (R129) -/

section
variable {s : State} {a : LoadArgs}

theorem State.loadTarget_unset (hkind : a.targetKind = 0x01) (hlive : s.ring.live = false) :
    s.loadTarget a = .error .ringUnset := by
  simp only [State.loadTarget, hkind, hlive, if_true]

theorem State.loadTarget_badPosition (hkind : a.targetKind = 0x01) (hlive : s.ring.live = true)
    (hbad : 16 ≤ a.targetHigh.toNat ∨
      ¬s.ring.inRange s.store.geometry (s.ring.position (a.target.setWidth 12)) = true) :
    s.loadTarget a = .error .badPosition := by
  simp only [State.loadTarget, hkind, hlive, Bool.true_eq_false, if_true, if_false]
  split
  · rfl
  · exact if_neg (hbad.resolve_left ‹_›)

theorem State.loadTarget_position (hkind : a.targetKind = 0x01) (hlive : s.ring.live = true) (hhigh : a.targetHigh.toNat < 16)
    (hrange : s.ring.inRange s.store.geometry (s.ring.position (a.target.setWidth 12)) = true) :
    s.loadTarget a = .ok (s.ring.slotAt s.store.geometry (s.ring.position (a.target.setWidth 12))) := by
  simp only [State.loadTarget, hkind, hlive, Bool.true_eq_false, if_true, if_false, if_neg (Nat.not_le.mpr hhigh), hrange]

theorem State.loadTarget_fixed {i : SlotIx} (hkind : a.targetKind = 0x02) (hhigh : a.targetHigh = 0)
    (hlow : a.targetLow.toNat = i.val) (hring : s.inRing i = false) : s.loadTarget a = .ok i := by
  have hne : ¬(0x02 : Byte) = 0x01 := by decide
  have hindex : slotIndexOf a.targetLow = some i := by
    have hlt : a.targetLow.toNat < 64 := hlow ▸ i.isLt
    exact (dif_pos hlt).trans (congrArg some (Fin.ext hlow))
  have harea : ¬s.areaOf i = .ring := by
    simpa [State.inRing] using hring
  simp only [State.loadTarget, hkind, if_neg hne, if_true, hhigh, ne_eq, not_true_eq_false, if_false, hindex, if_neg harea]

theorem State.loadTarget_badSlot (hkind : a.targetKind ≠ 0x01)
    (hbad : a.targetKind ≠ 0x02 ∨ a.targetHigh ≠ 0 ∨ 64 ≤ a.targetLow.toNat ∨
      ∃ i : SlotIx, a.targetLow.toNat = i.val ∧ s.areaOf i = .ring) : s.loadTarget a = .error .badSlot := by
  unfold State.loadTarget
  rw [if_neg hkind]
  split
  · rename_i h2
    split
    · rfl
    · rename_i h0
      rcases hbad.resolve_left (Classical.not_not.mpr h2) with h | h | ⟨i, hi, harea⟩
      · exact absurd h h0
      · rw [show slotIndexOf a.targetLow = none from dif_neg (Nat.not_lt.mpr h)]
      · have hlt : a.targetLow.toNat < 64 := hi ▸ i.isLt
        rw [show slotIndexOf a.targetLow = some i from (dif_pos hlt).trans (congrArg some (Fin.ext hi))]
        exact if_pos harea
  · rfl

end

/-! ### The engine (R128) -/

section
variable {s : State} {a : LoadArgs}

theorem State.loadEngineCheck_busy (hidle : s.idle = false) : s.loadEngineCheck a = some .busy := by
  simp only [State.loadEngineCheck, hidle, Bool.not_false, if_true]

theorem State.loadEngineCheck_program {i : SlotIx} {left : Nat} {who : HeldBy} (hidle : s.idle = true)
    (hheld : s.engine.held = some { op := .program i, remaining := left, by_ := who }) :
    s.loadEngineCheck a = some .suspended := by
  simp only [State.loadEngineCheck, hidle, hheld, Bool.not_true, Bool.false_eq_true, if_false]

theorem State.loadEngineCheck_erase {x : HeldOp} (hidle : s.idle = true) (hheld : s.engine.held = some x)
    (hop : x.op.isProgram = false) :
    s.loadEngineCheck a = match s.loadTarget a with
      | .ok i => if x.op.targets i then some .suspended else none
      | .error _ => none := by
  obtain ⟨op, left, who⟩ := x
  unfold State.loadEngineCheck
  rw [hidle, hheld]
  cases op with
  | program i => cases hop
  | _ => rfl

theorem State.loadEngineCheck_free (hidle : s.idle = true)
    (hheld : ∀ x, s.engine.held = some x → x.op.isProgram = false ∧ ∀ i, s.loadTarget a = .ok i → x.op.targets i = false) :
    s.loadEngineCheck a = none := by
  cases hx : s.engine.held with
  | none => simp only [State.loadEngineCheck, hidle, hx, Bool.not_true, Bool.false_eq_true, if_false]
  | some x =>
    obtain ⟨hop, htargets⟩ := hheld x hx
    rw [State.loadEngineCheck_erase hidle hx hop]
    cases htarget : s.loadTarget a with
    | error c => rfl
    | ok i => exact if_neg (by rw [htargets i htarget]; exact Bool.false_ne_true)

end

/-! ### Usage, transport source and the order of the checks (R127, R130 to R132) -/

section
variable {s : State} {a : LoadArgs} {c : Code} {i : SlotIx} {u : Usage} {source : Option SlotIx}

theorem LoadArgs.usageApplied_ring (hkind : a.targetKind = 0x01) : a.usageApplied = some .tagRoot := by
  simp [LoadArgs.usageApplied, LoadArgs.isRing, hkind]

theorem LoadArgs.isRing_fixed (hkind : a.targetKind = 0x02) : a.isRing = false := by
  simp [LoadArgs.isRing, hkind]

theorem LoadArgs.usageApplied_fixed (hkind : a.targetKind = 0x02) :
    (a.usage = 0x02 → a.usageApplied = some .receipt) ∧ (a.usage = 0x03 → a.usageApplied = some .transport) ∧
      (a.usage ≠ 0x02 → a.usage ≠ 0x03 → a.usageApplied = none) := by
  unfold LoadArgs.usageApplied
  rw [LoadArgs.isRing_fixed hkind]
  refine ⟨fun h => by rw [h]; rfl, fun h => by rw [h]; rfl, fun h2 h3 => ?_⟩
  unfold usageOf
  rw [if_neg h2, if_neg h3]
  by_cases h1 : a.usage = 0x01
  · rw [if_pos h1]; rfl
  · rw [if_neg h1]; rfl

/-- A plaintext load of a transport key is allowed while no LOADED slot holds one (R131). -/
theorem State.transportSource_plain (htransport : a.transport = 0xFF) (hring : a.isRing = false) (hu : u = .transport)
    (hnone : ∀ j, (s.slot j).serves .transport = false) : s.transportSource a u = some none := by
  have hany : (allSlots.any fun j => (s.slot j).serves .transport) = false := by
    rw [List.any_eq_false]
    intro j _
    rw [hnone j]
    exact Bool.false_ne_true
  simp only [State.transportSource, htransport, if_true, hring, hu, hany]
  rfl

theorem State.transportSource_slot {j : SlotIx} (hj : a.transport.toNat = j.val) (hserves : (s.slot j).serves .transport = true) :
    s.transportSource a u = some (some j) := by
  have hlt : a.transport.toNat < 64 := hj ▸ j.isLt
  have hne : ¬a.transport = 0xFF := by
    intro h
    rw [h] at hlt
    exact absurd hlt (by decide)
  have hindex : slotIndexOf a.transport = some j := (dif_pos hlt).trans (congrArg some (Fin.ext hj))
  simp only [State.transportSource, if_neg hne, hindex, hserves, if_true]

theorem State.transportSource_none (hslots : ∀ j : SlotIx, a.transport.toNat = j.val → (s.slot j).serves .transport = false)
    (hplain : ¬(a.transport = 0xFF ∧ a.isRing = false ∧ u = .transport ∧ ∀ j, (s.slot j).serves .transport = false)) :
    s.transportSource a u = none := by
  unfold State.transportSource
  split
  · rename_i hff
    refine if_neg fun h => hplain ⟨hff, ?_⟩
    simp only [Bool.and_eq_true, Bool.not_eq_true', beq_iff_eq] at h
    obtain ⟨⟨hring, hu⟩, hany⟩ := h
    refine ⟨hring, hu, fun j => ?_⟩
    rw [List.any_eq_false] at hany
    exact Bool.of_not_eq_true (hany j (List.mem_finRange j))
  · split
    · rename_i j hj
      unfold slotIndexOf at hj
      split at hj
      · cases hj
        exact if_neg (by rw [hslots _ rfl]; exact Bool.false_ne_true)
      · cases hj
    · rfl

theorem State.checkLoad_noPermit (hpermit : s.engine.permit = false) : s.checkLoad a = .error .noPermit := by
  simp only [State.checkLoad, hpermit, if_true]

theorem State.checkLoad_engine (hpermit : s.engine.permit = true) (hengine : s.loadEngineCheck a = some c) :
    s.checkLoad a = .error c := by
  simp only [State.checkLoad, hpermit, Bool.true_eq_false, if_false, hengine]

theorem State.checkLoad_target (hpermit : s.engine.permit = true) (hengine : s.loadEngineCheck a = none)
    (htarget : s.loadTarget a = .error c) : s.checkLoad a = .error c := by
  simp only [State.checkLoad, hpermit, Bool.true_eq_false, if_false, hengine, htarget]

/-- The checks of LOAD up to its target pass. -/
structure State.Targets (s : State) (a : LoadArgs) (i : SlotIx) : Prop where
  permit : s.engine.permit = true
  engine : s.loadEngineCheck a = none
  target : s.loadTarget a = .ok i

theorem State.checkLoad_protection (h : s.Targets a i) (hprotection : s.protectionRefusal i = some c) :
    s.checkLoad a = .error c := by
  simp only [State.checkLoad, h.permit, Bool.true_eq_false, if_false, h.engine, h.target, hprotection]

theorem State.checkLoad_notBlank (h : s.Targets a i) (hprotection : s.protectionRefusal i = none)
    (hstate : (s.slot i).state ≠ .blank) : s.checkLoad a = .error .notBlank := by
  simp only [State.checkLoad, h.permit, Bool.true_eq_false, if_false, h.engine, h.target, hprotection, if_pos hstate]

/-- The checks of LOAD up to the state of its slot pass. -/
structure State.Loadable (s : State) (a : LoadArgs) (i : SlotIx) : Prop extends s.Targets a i where
  protection : s.protectionRefusal i = none
  blank : (s.slot i).state = .blank

theorem State.checkLoad_usage (h : s.Loadable a i) (hu : a.usageApplied = none) : s.checkLoad a = .error .badUsage := by
  simp only [State.checkLoad, h.permit, Bool.true_eq_false, if_false, h.engine, h.target, h.protection, h.blank, ne_eq,
    not_true_eq_false, hu]

theorem State.checkLoad_mask (h : s.Loadable a i) (hmask : 16 ≤ a.laneMask.toNat) : s.checkLoad a = .error .badUsage := by
  cases hu : a.usageApplied with
  | none => exact State.checkLoad_usage h hu
  | some u =>
    simp only [State.checkLoad, h.permit, Bool.true_eq_false, if_false, h.engine, h.target, h.protection, h.blank, ne_eq,
      not_true_eq_false, hu, if_pos hmask]

theorem State.checkLoad_transport (h : s.Loadable a i) (hu : a.usageApplied = some u) (hmask : a.laneMask.toNat < 16)
    (hsource : s.transportSource a u = none) : s.checkLoad a = .error .badUsage := by
  simp only [State.checkLoad, h.permit, Bool.true_eq_false, if_false, h.engine, h.target, h.protection, h.blank, ne_eq,
    not_true_eq_false, hu, if_neg (Nat.not_le.mpr hmask), hsource]

theorem State.checkLoad_manifest (h : s.Loadable a i) (hu : a.usageApplied = some u) (hmask : a.laneMask.toNat < 16)
    (hsource : s.transportSource a u = some source) (hmanifest : a.manifest ≠ s.manifest a) :
    s.checkLoad a = .error .manifestMismatch := by
  simp only [State.checkLoad, h.permit, Bool.true_eq_false, if_false, h.engine, h.target, h.protection, h.blank, ne_eq,
    not_true_eq_false, hu, if_neg (Nat.not_le.mpr hmask), hsource, if_pos hmanifest]

theorem State.checkLoad_ok (h : s.Loadable a i) (hu : a.usageApplied = some u) (hmask : a.laneMask.toNat < 16)
    (hsource : s.transportSource a u = some source) (hmanifest : a.manifest = s.manifest a) :
    s.checkLoad a = .ok { slot := i, generation := if a.isRing then some (a.target.setWidth 12) else none, usage := u,
                          laneMask := a.laneMask.setWidth 4, transport := source, wrapped := a.wrapped, iv := a.iv,
                          kcv := a.kcv } := by
  have hmanifest' : ¬a.manifest ≠ s.manifest a := Classical.not_not.mpr hmanifest
  simp only [State.checkLoad, h.permit, Bool.true_eq_false, if_false, h.engine, h.target, h.protection, h.blank, ne_eq,
    not_true_eq_false, hu, if_neg (Nat.not_le.mpr hmask), hsource, if_neg hmanifest']

end

/-! ### The accepted LOAD -/

theorem Ring.inRange_bounds {r : Ring} {geo : Geometry} {p : Int} :
    r.inRange geo p = true ↔ -(r.back : Int) ≤ p ∧ p ≤ (geo.ring : Int) - 1 - (r.back : Int) := by
  simp only [Ring.inRange, Bool.and_eq_true, decide_eq_true_iff]

theorem State.not_locked_of_not_protected {s : State} {i : SlotIx} (h : s.protectedSlot i = false) : s.lockedSlot i = false := by
  unfold State.protectedSlot at h
  unfold State.lockedSlot
  split
  · rename_i area harea
    rw [harea] at h
    simp only [AreaProtection.effective, Bool.or_eq_false_iff] at h
    exact h.1
  · rfl

theorem State.protectionRefusal_none {s : State} {i : SlotIx} (h : s.protectedSlot i = false) : s.protectionRefusal i = none := by
  simp only [State.protectionRefusal, State.not_locked_of_not_protected h, h, Bool.false_eq_true, if_false]

theorem length_of_argLoad {payload : List Byte} {a : LoadArgs} (h : argLoad payload = some a) : payload.length = 42 := by
  unfold argLoad at h
  split at h
  · assumption
  · cases h

/-- A LOAD that is heard answers what its rule answers. -/
theorem exec_load {s t : State} {payload : List Byte} {a : LoadArgs} {code : Code} {answered : List Byte}
    (hp : s.Admits .site) (ha : argLoad payload = some a)
    (hrule : loadRule a (s.disarm .site) = reply code answered (t.disarm .site)) :
    exec (.load payload) s = .next (t.heard .site code answered) := by
  have hlen : payload.length ≤ 64 := by
    rw [length_of_argLoad ha]
    decide
  change execLoad payload s = _
  unfold execLoad
  rw [ha]
  exact State.next_heard hp hlen hrule

/-- A load that passes its checks becomes PREPARING, and the permit clears (R133). -/
theorem exec_load_accepted {s : State} {payload : List Byte} {a : LoadArgs} {load : Load} (hp : s.Admits .site)
    (ha : argLoad payload = some a) (hcheck : s.checkLoad a = .ok load) :
    exec (.load payload) s = .next
      (({ s with engine := { s.engine with permit := false, active := some { op := .load load, remaining := 0 } } } : State).heard
        .site .accepted
        ([numByte load.slot.val] ++ match load.generation with | some g => positionBytes (s.ring.position g) | none => [])) := by
  have hcheck' : (s.disarm .site).checkLoad a = .ok load := hcheck
  refine exec_load hp ha ?_
  unfold loadRule
  rw [hcheck']
  rfl

/-- Settles O39: the checks pass one by one, and the load becomes PREPARING. -/
theorem loadsAreAccepted : Obligations.LoadsAreAccepted := by
  unfold Obligations.LoadsAreAccepted
  intro s payload a i u transport hp ha hpermit hidle hheld hprotected hblank hmask hplain hslot load accepted common
  have htransport : (a.isRing = false ∨ transport ≠ none) → s.transportSource a u = some transport := by
    intro hring
    cases ht : transport with
    | none =>
      obtain ⟨hff, hu, hnone⟩ := hplain ht
      exact State.transportSource_plain hff (hring.resolve_right (Classical.not_not.mpr ht)) hu hnone
    | some j =>
      obtain ⟨hj, hserves⟩ := hslot j ht
      exact State.transportSource_slot hj hserves
  have hloadable : s.loadTarget a = .ok i → s.Loadable a i := fun htarget =>
    { permit := hpermit, target := htarget, protection := State.protectionRefusal_none hprotected, blank := hblank,
      engine := State.loadEngineCheck_free hidle fun x hx => by
        obtain ⟨hop, htargets⟩ := hheld x hx
        refine ⟨hop, fun k hk => ?_⟩
        rw [htarget] at hk
        cases hk
        exact htargets }
  refine ⟨fun hkind hlive hhigh hu hsource => ?_, fun hkind hhigh hlow hring husage hmanifest => ?_⟩
  · intro g p hupper hlower hi hmanifest
    have htarget : s.loadTarget a = .ok i :=
      (State.loadTarget_position hkind hlive hhigh (Ring.inRange_bounds.mpr ⟨hlower, hupper⟩)).trans (congrArg _ hi.symm)
    have hring : a.isRing = true := by simp [LoadArgs.isRing, hkind]
    have hsum : a.manifest = s.manifest a := by
      rw [hmanifest, State.manifest, hring]
      simp only [common, if_true]
      ac_rfl
    have happlied : a.usageApplied = some u := hu ▸ LoadArgs.usageApplied_ring hkind
    have hcheck := State.checkLoad_ok (hloadable htarget) happlied hmask (htransport (.inr hsource)) hsum
    rw [if_pos hring] at hcheck
    exact exec_load_accepted hp ha hcheck
  · have hring' := LoadArgs.isRing_fixed hkind
    have hsum : a.manifest = s.manifest a := by
      rw [hmanifest, State.manifest, hring']
      simp only [common, Bool.false_eq_true, if_false]
      ac_rfl
    have happlied : a.usageApplied = some u := by
      obtain ⟨hreceipt, htransport', -⟩ := LoadArgs.usageApplied_fixed hkind
      rcases husage with ⟨h, rfl⟩ | ⟨h, rfl⟩
      · exact hreceipt h
      · exact htransport' h
    have hcheck := State.checkLoad_ok (hloadable (State.loadTarget_fixed hkind hhigh hlow hring)) happlied hmask
      (htransport (.inl hring')) hsum
    rw [if_neg (by rw [hring']; exact Bool.false_ne_true)] at hcheck
    exact exec_load_accepted hp ha hcheck

/-! ### The refused LOAD -/

/-- A load that a check refuses changes nothing but the transaction (R127). -/
theorem exec_load_refused {s : State} {payload : List Byte} {a : LoadArgs} {c : Code} (hp : s.Admits .site)
    (ha : argLoad payload = some a) (hcheck : s.checkLoad a = .error c) :
    exec (.load payload) s = .next (s.heard .site c []) := by
  have hcheck' : (s.disarm .site).checkLoad a = .error c := hcheck
  refine exec_load hp ha ?_
  unfold loadRule
  rw [hcheck']
  rfl

/-- The area of a slot under a geometry, read from its index (R1). -/
theorem State.areaOf_eq (s : State) (i : SlotIx) :
    s.areaOf i = if i.val < s.store.geometry.head then .head
      else if i.val < s.store.geometry.head + s.store.geometry.ring then .ring else .tail := rfl

/-- A slot is locked with its fixed area (R16). -/
theorem State.lockedSlot_iff (s : State) (i : SlotIx) : s.lockedSlot i = true ↔
    (i.val < s.store.geometry.head ∧ s.protection.head.lock = true) ∨
    (s.store.geometry.head ≤ i.val ∧ s.store.geometry.head + s.store.geometry.ring ≤ i.val ∧ s.protection.tail.lock = true) := by
  unfold State.lockedSlot
  rw [State.areaOf_eq]
  by_cases h1 : i.val < s.store.geometry.head
  · rw [if_pos h1]
    simp [Area.fixed, Protection.area, h1, Nat.not_le.mpr h1]
  · rw [if_neg h1]
    by_cases h2 : i.val < s.store.geometry.head + s.store.geometry.ring
    · rw [if_pos h2]
      simp [Area.fixed, h1, Nat.not_le.mpr h2]
    · rw [if_neg h2]
      simp [Area.fixed, Protection.area, h1, Nat.not_lt.mp h1, Nat.not_lt.mp h2]

/-- A slot is protected with its fixed area (R163). -/
theorem State.protectedSlot_iff (s : State) (i : SlotIx) : s.protectedSlot i = true ↔
    (i.val < s.store.geometry.head ∧ s.protection.head.effective = true) ∨
    (s.store.geometry.head ≤ i.val ∧ s.store.geometry.head + s.store.geometry.ring ≤ i.val ∧
      s.protection.tail.effective = true) := by
  unfold State.protectedSlot
  rw [State.areaOf_eq]
  by_cases h1 : i.val < s.store.geometry.head
  · rw [if_pos h1]
    simp [Area.fixed, Protection.area, h1, Nat.not_le.mpr h1]
  · rw [if_neg h1]
    by_cases h2 : i.val < s.store.geometry.head + s.store.geometry.ring
    · rw [if_pos h2]
      simp [Area.fixed, h1, Nat.not_le.mpr h2]
    · rw [if_neg h2]
      simp [Area.fixed, Protection.area, h1, Nat.not_lt.mp h1, Nat.not_lt.mp h2]

theorem Slot.serves_transport_iff (x : Slot) : x.serves .transport = true ↔
    x.state = .loaded ∧ ∃ f, x.fields = some f ∧ f.usage = .transport := by
  unfold Slot.serves Slot.usage
  cases x.fields <;> simp

/-- The operands of a LOAD, field by field (R126). -/
theorem argLoad_fields (kind hi lo usage mask transport m k1 k2 k3 : Byte) {wrapped iv : List Byte}
    (hwrapped : wrapped.length = 16) (hiv : iv.length = 16) :
    ∃ a, argLoad ([kind, hi, lo, usage, mask, transport] ++ wrapped ++ iv ++ [k1, k2, k3, m]) = some a ∧
      a.targetKind = kind ∧ a.targetHigh = hi ∧ a.targetLow = lo ∧ a.usage = usage ∧ a.laneMask = mask ∧
      a.transport = transport ∧ a.kcvBytes = [k1, k2, k3] ∧ a.manifest = m := by
  have hhead : ([kind, hi, lo, usage, mask, transport] ++ wrapped ++ iv).length = 38 := by simp [hwrapped, hiv]
  have hlen : ([kind, hi, lo, usage, mask, transport] ++ wrapped ++ iv ++ [k1, k2, k3, m]).length = 42 := by
    rw [List.length_append, hhead]
    rfl
  have hdrop : ([kind, hi, lo, usage, mask, transport] ++ wrapped ++ iv ++ [k1, k2, k3, m]).drop 38 = [k1, k2, k3, m] :=
    List.drop_left' hhead
  have hlast : byteAt ([kind, hi, lo, usage, mask, transport] ++ wrapped ++ iv ++ [k1, k2, k3, m]) 41 = m := by
    have hget := congrArg (fun l : List Byte => (l[3]?).getD 0) hdrop
    simp only [List.getElem?_drop] at hget
    rw [byteAt, List.getD_eq_getElem?_getD]
    exact hget
  unfold argLoad
  rw [if_pos hlen, hdrop, hlast]
  exact ⟨_, rfl, rfl, rfl, rfl, rfl, rfl, rfl, rfl, rfl⟩

/-- The manifest sum, term by term (R132). -/
theorem State.manifest_eq (s : State) {a : LoadArgs} {k1 k2 k3 : Byte} (hkcv : a.kcvBytes = [k1, k2, k3]) :
    s.manifest a = a.targetHigh + a.targetLow + (if a.targetKind = 0x01 then 0x01 else a.usage) + a.laneMask + k1 + k2 + k3 +
      BitVec.ofNat 8 s.store.geometry.ring + BitVec.ofNat 8 s.store.geometry.head := by
  have hring : (if a.isRing = true then (0x01 : Byte) else a.usage) = if a.targetKind = 0x01 then 0x01 else a.usage :=
    ite_congr (propext (by simp [LoadArgs.isRing])) (fun _ => rfl) fun _ => rfl
  have hfold : a.kcvBytes.foldl (· + ·) 0 = k1 + k2 + k3 := by
    rw [hkcv]
    simp
  unfold State.manifest
  rw [hring, hfold]
  simp only [numByte]
  ac_rfl

/-- The slot that a target of the ring range names (R25, R129). -/
theorem Ring.slotAt_eq_of_val {r : Ring} {geo : Geometry} {p : Int} {i : SlotIx} (hrange : r.inRange geo p = true)
    (hi : (i.val : Int) = geo.head + ((r.h : Int) + p) % geo.ring) : i = r.slotAt geo p := by
  obtain ⟨hlow, hhigh⟩ := Ring.inRange_bounds.mp hrange
  have hnonneg : 0 ≤ ((r.h : Int) + p) % geo.ring := Int.emod_nonneg _ (by omega)
  have hval : (r.slotAt geo p).val = (geo.head + (((r.h : Int) + p) % geo.ring).toNat) % 64 := rfl
  exact Fin.ext (by omega)

/-- A load that passes its check of usage has a usage (R130). -/
theorem LoadArgs.usageApplied_some {a : LoadArgs} (hkinds : a.targetKind = 0x01 ∨ a.targetKind = 0x02)
    (husage : a.targetKind = 0x02 → a.usage = 0x02 ∨ a.usage = 0x03) : ∃ u, a.usageApplied = some u := by
  rcases hkinds with hkind | hkind
  · exact ⟨_, LoadArgs.usageApplied_ring hkind⟩
  · obtain ⟨hreceipt, htransport, -⟩ := LoadArgs.usageApplied_fixed hkind
    rcases husage hkind with h | h
    · exact ⟨_, hreceipt h⟩
    · exact ⟨_, htransport h⟩

/-- A load that names a transport key by its usage is one of a fixed target with usage 0x03 (R130). -/
theorem LoadArgs.usageApplied_transport {a : LoadArgs} {u : Usage} (hkinds : a.targetKind = 0x01 ∨ a.targetKind = 0x02)
    (hu : a.usageApplied = some u) : a.isRing = false ∧ u = .transport ↔ a.targetKind = 0x02 ∧ a.usage = 0x03 := by
  constructor
  · rintro ⟨hring, rfl⟩
    have hkind : a.targetKind = 0x02 := hkinds.resolve_left fun h => by simp [LoadArgs.isRing, h] at hring
    obtain ⟨hreceipt, -, hnone⟩ := LoadArgs.usageApplied_fixed hkind
    refine ⟨hkind, Decidable.byContradiction fun h3 => ?_⟩
    by_cases h2 : a.usage = 0x02
    · cases hu.symm.trans (hreceipt h2)
    · cases hu.symm.trans (hnone h2 h3)
  · rintro ⟨hkind, h3⟩
    obtain ⟨-, htransport, -⟩ := LoadArgs.usageApplied_fixed hkind
    exact ⟨LoadArgs.isRing_fixed hkind, Option.some.inj (hu.symm.trans (htransport h3))⟩

/-- Settles O40: the first check that fails. -/
theorem loadsAreRefused : Obligations.LoadsAreRefused := by
  unfold Obligations.LoadsAreRefused
  intro s kind hi lo usage mask transport m k1 k2 k3 wrapped iv hp hwrapped hiv
  obtain ⟨a, ha, rfl, rfl, rfl, rfl, rfl, rfl, hkcv, rfl⟩ := argLoad_fields kind hi lo usage mask transport m k1 k2 k3 hwrapped hiv
  intro refused first size p inRange names locked guarded serves plain sum
  have hrefused : ∀ c, s.checkLoad a = .error c → refused c := fun c h => exec_load_refused hp ha h
  have hposition : s.ring.position (a.target.setWidth 12) = p := rfl
  have hinRange : s.ring.inRange s.store.geometry (s.ring.position (a.target.setWidth 12)) = true ↔ inRange :=
    Ring.inRange_bounds
  have htarget : ∀ i, names i → s.loadTarget a = .ok i := by
    rintro i (⟨hkind, hlive, hhigh, hrange, hval⟩ | ⟨hkind, hhigh, hlow, hout⟩)
    · have hslot := Ring.slotAt_eq_of_val (hinRange.mpr hrange) hval
      rw [State.loadTarget_position hkind hlive hhigh (hinRange.mpr hrange), ← hslot]
    · refine State.loadTarget_fixed hkind hhigh hlow ?_
      have hnot : s.areaOf i ≠ .ring := by
        rw [State.areaOf_eq]
        split
        · exact nofun
        · split
          · exact absurd hout (by simp only [first, size]; omega)
          · exact nofun
      simpa [State.inRing] using hnot
  refine ⟨fun hpermit => hrefused _ (State.checkLoad_noPermit hpermit),
    fun hpermit hidle => hrefused _ (State.checkLoad_engine hpermit (State.loadEngineCheck_busy hidle)),
    fun hpermit hidle => ⟨fun left who i hheld => ?_, fun x i hheld hop hi htargets => ?_, fun hheld => ?_,
      fun i hi hheld => ?_⟩⟩
  · exact hrefused _ (State.checkLoad_engine hpermit (State.loadEngineCheck_program hidle hheld))
  · refine hrefused _ (State.checkLoad_engine hpermit ?_)
    rw [State.loadEngineCheck_erase hidle hheld hop, htarget i hi]
    exact if_pos htargets
  · have herror : ∀ c, s.loadTarget a = .error c → refused c := by
      intro c hc
      refine hrefused _ (State.checkLoad_target hpermit
        (State.loadEngineCheck_free hidle fun x hx => ⟨hheld x hx, fun i hi => ?_⟩) hc)
      rw [hc] at hi
      cases hi
    refine ⟨fun h1 h2 => herror _ (State.loadTarget_badSlot h1 (.inl h2)),
      fun hkind hlive => herror _ (State.loadTarget_unset hkind hlive),
      fun hkind hlive hbad => herror _ (State.loadTarget_badPosition hkind hlive (hbad.imp_right (not_congr hinRange).mpr)),
      fun hkind hbad => herror _ (State.loadTarget_badSlot (by rw [hkind]; decide) (.inr ?_))⟩
    rcases hbad with h | h | ⟨hlow, hhigh⟩
    · exact .inl h
    · exact .inr (.inl h)
    · by_cases h64 : a.targetLow.toNat < 64
      · refine .inr (.inr ⟨⟨a.targetLow.toNat, h64⟩, rfl, ?_⟩)
        rw [State.areaOf_eq, if_neg (Nat.not_lt.mpr hlow), if_pos hhigh]
      · exact .inr (.inl (Nat.not_lt.mp h64))
  · have htargets : s.Targets a i :=
      { permit := hpermit, target := htarget i hi,
        engine := State.loadEngineCheck_free hidle fun x hx => ⟨(hheld x hx).1, fun k hk => by
          rw [htarget i hi] at hk
          cases hk
          exact (hheld x hx).2⟩ }
    have hlocked : s.lockedSlot i = true ↔ locked i := s.lockedSlot_iff i
    have hguarded : s.protectedSlot i = true ↔ guarded i := s.protectedSlot_iff i
    refine ⟨fun h => hrefused _ (State.checkLoad_protection htargets (if_pos (hlocked.mpr h))), fun h h' => ?_, fun h h' => ?_⟩
    · exact hrefused _ (State.checkLoad_protection htargets ((if_neg ((not_congr hlocked).mpr h)).trans (if_pos (hguarded.mpr h'))))
    · have hprotection : s.protectionRefusal i = none := (if_neg ((not_congr hlocked).mpr h)).trans (if_neg ((not_congr hguarded).mpr h'))
      refine ⟨fun hstate => hrefused _ (State.checkLoad_notBlank htargets hprotection hstate), fun hblank => ?_⟩
      have hloadable : s.Loadable a i := { htargets with protection := hprotection, blank := hblank }
      have hkinds : a.targetKind = 0x01 ∨ a.targetKind = 0x02 := hi.imp (fun h => h.1) (fun h => h.1)
      have hserves : ∀ j, serves j ↔ (s.slot j).serves .transport = true := fun j => (Slot.serves_transport_iff _).symm
      refine ⟨fun hbad => hrefused _ ?_, fun hmask husage => ?_⟩
      · rcases hbad with hmask | ⟨hkind, h2, h3⟩
        · exact State.checkLoad_mask hloadable hmask
        · obtain ⟨-, -, hnone⟩ := LoadArgs.usageApplied_fixed hkind
          exact State.checkLoad_usage hloadable (hnone h2 h3)
      · obtain ⟨u, hu⟩ : ∃ u, a.usageApplied = some u := LoadArgs.usageApplied_some hkinds husage
        have hfixed := LoadArgs.usageApplied_transport hkinds hu
        refine ⟨fun hslots hplain => hrefused _ ?_, fun hsource hsum => hrefused _ ?_⟩
        · refine State.checkLoad_transport hloadable hu hmask (State.transportSource_none (fun j hj => ?_) fun h => hplain ?_)
          · exact Bool.of_not_eq_true ((not_congr (hserves j)).mp (hslots j hj))
          · obtain ⟨hff, hring, htransport, hnone⟩ := h
            obtain ⟨hkind, h3⟩ := hfixed.mp ⟨hring, htransport⟩
            exact ⟨hff, hkind, h3, fun j hj => Bool.false_ne_true ((hnone j).symm.trans ((hserves j).mp hj))⟩
        · obtain ⟨source, hsource'⟩ : ∃ source, s.transportSource a u = some source := by
            rcases hsource with ⟨j, hj, hj'⟩ | ⟨hff, hkind, h3, hnone⟩
            · exact ⟨some j, State.transportSource_slot hj ((hserves j).mp hj')⟩
            · obtain ⟨hring, htransport⟩ := hfixed.mpr ⟨hkind, h3⟩
              exact ⟨none, State.transportSource_plain hff hring htransport fun j =>
                Bool.of_not_eq_true ((not_congr (hserves j)).mp (hnone j))⟩
          exact State.checkLoad_manifest hloadable hu hmask hsource' fun h => hsum (h.trans (s.manifest_eq hkcv))

end Sys2Proof.Machine

/-! PROOFS. SUSPEND and RESUME, RETIRE, and the acceptance and refusal of erases (R10, R11, R17, R139 to R141, R155, R156). -/

namespace Sys2Proof.Machine

/-! ### SUSPEND and RESUME -/

section
variable {s t : State} {code : Code} {answered : List Byte}

theorem exec_suspend (hp : s.Admits .site) (hrule : suspendRule (s.disarm .site) = reply code answered (t.disarm .site)) :
    exec (.suspend []) s = .next (t.heard .site code answered) := by
  change execSuspend [] s = _
  exact State.next_heard (a := ()) hp (by decide) hrule

theorem exec_resume (hp : s.Admits .site) (hrule : resumeRule (s.disarm .site) = reply code answered (t.disarm .site)) :
    exec (.resume []) s = .next (t.heard .site code answered) := by
  change execResume [] s = _
  exact State.next_heard (a := ()) hp (by decide) hrule

end

section
variable {s : State} {op : SlotOp} {left : Nat}

theorem suspendRule_site (h : s.engine.held = some { op := op, remaining := left, by_ := .site }) :
    suspendRule s = refuse .alreadySuspended s := by
  unfold suspendRule
  rw [h]

theorem suspendRule_auto (h : s.engine.held = some { op := op, remaining := left, by_ := .auto }) :
    suspendRule s = if s.tooSoon then refuse .tooSoon s else reply .ok (slotOpBytes op left)
      { s with engine := { s.engine with held := some { op := op, remaining := left, by_ := .site } } } := by
  unfold suspendRule
  rw [h]

theorem suspendRule_active (h : s.engine.held = none) (ha : s.engine.active = some { op := .slotOp op, remaining := left }) :
    suspendRule s = if s.tooSoon then refuse .tooSoon s else reply .ok (slotOpBytes op left) (s.holdActive .site) := by
  unfold suspendRule
  rw [h, ha]

theorem suspendRule_nothing (h : s.engine.held = none) (ha : ∀ op, s.engine.active.map (·.op) ≠ some (.slotOp op)) :
    suspendRule s = refuse .notSuspendable s := by
  unfold suspendRule
  rw [h]
  dsimp only
  split
  · rename_i heq
    exact absurd (congrArg (Option.map (·.op)) heq) (ha _)
  · rfl

theorem resumeRule_site (h : s.engine.held = some { op := op, remaining := left, by_ := .site }) :
    resumeRule s = if s.idle then reply .ok (slotOpBytes op left)
        { s with engine := { s.engine with active := some { op := .slotOp op, remaining := left }, held := none,
                                           lastResume := some s.clock.time } }
      else refuse .busy s := by
  unfold resumeRule
  rw [h]

theorem resumeRule_other (h : ∀ x, s.engine.held = some x → x.by_ = .auto) : resumeRule s = refuse .notSuspended s := by
  unfold resumeRule
  split
  · rename_i heq
    cases h _ heq
  · rfl

theorem State.holdActive_slotOp (who : HeldBy) (h : s.engine.active = some { op := .slotOp op, remaining := left }) :
    s.holdActive who = { s with engine := { s.engine with
      active := none, held := some { op := op, remaining := left, by_ := who }, restLeft := 20 } } := by
  unfold State.holdActive
  rw [h]
  rfl

end

/-- The guard after a RESUME (R155). -/
theorem State.tooSoon_iff (s : State) :
    s.tooSoon = true ↔ ∃ t, s.engine.lastResume = some t ∧ elapsed t s.clock.time < 200 := by
  unfold State.tooSoon
  cases s.engine.lastResume with
  | none => simp
  | some t =>
    simp only [Option.some.injEq, exists_eq_left']
    exact decide_eq_true_iff

/-- Settles O46: the cases of the hold, of the active operation and of the guard. -/
theorem suspendAndResume : Obligations.SuspendAndResume := by
  unfold Obligations.SuspendAndResume
  intro s hp held refused
  refine ⟨fun op left hheld => ⟨exec_suspend hp (suspendRule_site (s := s.disarm .site) hheld), fun hidle => ?_, fun hidle => ?_⟩,
    fun hauto => exec_resume hp (resumeRule_other (s := s.disarm .site) hauto),
    fun op left hheld => ⟨fun hsoon => ?_, fun hsoon => ?_⟩,
    fun hheld => ⟨fun op left hactive => ⟨fun hsoon => ?_, fun hsoon => ?_⟩,
      fun hnone => exec_suspend hp (suspendRule_nothing (s := s.disarm .site) hheld hnone)⟩, s.tooSoon_iff⟩
  · exact exec_resume hp ((resumeRule_site (s := s.disarm .site) hheld).trans (if_pos hidle))
  · exact exec_resume hp ((resumeRule_site (s := s.disarm .site) hheld).trans (if_neg (Bool.eq_false_iff.mp hidle)))
  · exact exec_suspend hp ((suspendRule_auto (s := s.disarm .site) hheld).trans (if_pos hsoon))
  · exact exec_suspend hp ((suspendRule_auto (s := s.disarm .site) hheld).trans (if_neg (Bool.eq_false_iff.mp hsoon)))
  · exact exec_suspend hp ((suspendRule_active (s := s.disarm .site) hheld hactive).trans (if_pos hsoon))
  · have hrule := (suspendRule_active (s := s.disarm .site) hheld hactive).trans (if_neg (Bool.eq_false_iff.mp hsoon))
    rw [State.holdActive_slotOp (s := s.disarm .site) .site hactive] at hrule
    exact exec_suspend hp hrule

/-! ### RETIRE -/

theorem State.generationsOf_iff {s : State} {p : SlotIx → Bool} {g : Gen} :
    s.generationsOf p g = true ↔ ∃ i, p i = true ∧ s.inRing i = true ∧ (s.slot i).generation = some g := by
  refine ⟨fun h => ?_, fun ⟨i, hp, hi, hg⟩ => State.generationsOf_eq_true hp hi hg⟩
  unfold State.generationsOf at h
  obtain ⟨i, -, hi⟩ := List.any_eq_true.mp h
  simp only [Bool.and_eq_true, beq_iff_eq] at hi
  exact ⟨i, hi.1.1, hi.1.2, hi.2⟩

/-- The retirement of one slot writes its record alone (R10). -/
theorem State.store_retireSlots_one (s : State) (i : SlotIx) :
    (s.retireSlots (· == i)).store = { s.store with slots := s.store.slots.set i (s.slot i).retire } := by
  have hslots : (s.retireSlots (· == i)).store.slots = (s.setSlot i (s.slot i).retire).store.slots := by
    refine State.slots_ext _ fun j => ?_
    rw [State.slot_retireSlots, State.slot_setSlot]
    by_cases h : j = i
    · rw [if_pos (beq_iff_eq.mpr h), if_pos h.symm, h]
    · rw [if_neg (by simpa using h), if_neg (Ne.symm h)]
  exact congrArg (fun v => ({ s.store with slots := v } : KeyStore)) hslots

/-- The state of the part after a RETIRE of slot `i` (R17). -/
def State.retiredByCommand (i : SlotIx) (s : State) : State :=
  let retired := s.spendPermit.retireSlots (· == i)
  if s.inRing i && s.inWindow i then retired.flagLanes .ringChanged else retired

theorem acceptRetire_eq (s : State) (i : SlotIx) : acceptRetire i (s.disarm .site) =
    reply .ok ([numByte i.val] ++ if s.inRing i then (match (s.slot i).generation with | some g => genBytes g | none => []) else [])
      ((s.retiredByCommand i).disarm .site) := by
  unfold State.retiredByCommand
  dsimp only
  by_cases h : (s.inRing i && s.inWindow i) = true
  · rw [if_pos h]
    have h' : ((s.disarm .site).inRing i && (s.disarm .site).inWindow i) = true := h
    unfold acceptRetire
    dsimp only
    rw [if_pos h']
    rfl
  · rw [if_neg h]
    have h' : ¬((s.disarm .site).inRing i && (s.disarm .site).inWindow i) = true := h
    unfold acceptRetire
    dsimp only
    rw [if_neg h']
    rfl

theorem exec_retire {s t : State} {b : Byte} {code : Code} {answered : List Byte} (hp : s.Admits .site)
    (hrule : retireRule b (s.disarm .site) = reply code answered (t.disarm .site)) :
    exec (.retire [b]) s = .next (t.heard .site code answered) := by
  change execRetire [b] s = _
  exact State.next_heard (a := b) hp (by simp) hrule

/-- Losing sessions closes sessions of the lane, flagged where one was lost (R103, R107). -/
theorem Lane.loseSessions_over (x : Lane) (p : Session → Bool) :
    ∃ y : Lane, ((∃ (e : EntryIx) (v : Session), (x.sessions[e]).session = some v ∧ p v = true) → y = x.flag .sessionLost) ∧
      ((∀ e : EntryIx, ¬∃ v, (x.sessions[e]).session = some v ∧ p v = true) → y = x) ∧
      x.loseSessions p = { y with sessions := (x.loseSessions p).sessions } := by
  obtain ⟨-, -, hlost, hnone⟩ := Lane.loseSessions_cases x p
  by_cases h : ∃ (e : EntryIx) (v : Session), (x.sessions[e]).session = some v ∧ p v = true
  · exact ⟨x.flag .sessionLost, fun _ => rfl, fun hno => absurd h fun ⟨e, he⟩ => hno e he, hlost h⟩
  · have hno : ∀ e : EntryIx, ¬∃ v, (x.sessions[e]).session = some v ∧ p v = true := fun e he => h ⟨e, he⟩
    exact ⟨x, fun hsome => absurd hsome h, fun _ => rfl, by rw [hnone hno]⟩

theorem Lane.flag_over (f : LaneFlag) (x : Lane) (v : Vector Entry 4) :
    ({ x with sessions := v } : Lane).flag f = { x.flag f with sessions := v } := by
  have hdisabled : ({ x with sessions := v } : Lane).disabled = x.disabled := rfl
  unfold Lane.flag
  rw [hdisabled]
  split <;> rfl

theorem State.lane_retiredByCommand (s : State) (i : SlotIx) (l : LaneIx) : (s.retiredByCommand i).lane l =
    if s.inRing i = true ∧ s.inWindow i = true
    then ((s.lane l).loseSessions fun x => s.generationsOf (· == i) x.generation).flag .ringChanged
    else (s.lane l).loseSessions fun x => s.generationsOf (· == i) x.generation := by
  have hretired : (s.spendPermit.retireSlots (· == i)).lane l =
      (s.lane l).loseSessions fun x => s.generationsOf (· == i) x.generation := State.lane_retireSlots ..
  unfold State.retiredByCommand
  by_cases h : s.inRing i = true ∧ s.inWindow i = true
  · rw [if_pos h]
    dsimp only
    rw [if_pos (Bool.and_eq_true_iff.mpr h), State.lane_flagLanes, hretired]
  · rw [if_neg h]
    dsimp only
    rw [if_neg fun h' => h (Bool.and_eq_true_iff.mp h'), hretired]

theorem State.cache_retiredByCommand (s : State) (i : SlotIx) :
    (s.retiredByCommand i).cache = s.cache.filter fun e => !s.generationsOf (· == i) e.generation := by
  have hretired : (s.spendPermit.retireSlots (· == i)).cache = s.cache.filter fun e => !s.generationsOf (· == i) e.generation :=
    State.cache_retireSlots ..
  unfold State.retiredByCommand
  dsimp only
  split
  · exact hretired
  · exact hretired

theorem State.retiredByCommand_frame (s : State) (i : SlotIx) : s.retiredByCommand i =
    { s with store := { s.store with slots := s.store.slots.set i (s.slot i).retire },
             engine := { s.engine with permit := false }, lanes := (s.retiredByCommand i).lanes,
             cache := (s.retiredByCommand i).cache } := by
  have hframe := s.spendPermit.retireSlots_frame (· == i)
  rw [s.spendPermit.store_retireSlots_one i] at hframe
  unfold State.retiredByCommand
  dsimp only
  split
  · generalize s.spendPermit.retireSlots (· == i) = t at hframe
    exact congrArg (fun u : State => { u with lanes := (t.flagLanes .ringChanged).lanes }) hframe
  · exact hframe

theorem slotIndexOf_val {b : Byte} {i : SlotIx} (h : b.toNat = i.val) : slotIndexOf b = some i := by
  have hlt : b.toNat < 64 := h ▸ i.isLt
  exact (dif_pos hlt).trans (congrArg some (Fin.ext h))

theorem retireRule_slot {s : State} {b : Byte} {i : SlotIx} (hb : b.toNat = i.val) (hpermit : s.engine.permit = true) :
    retireRule b s = if s.lockedSlot i then refuse .locked s
      else if (s.slot i).state ≠ .loaded then refuse .notLoaded s else acceptRetire i s := by
  unfold retireRule
  rw [if_neg (by rw [hpermit]; exact nofun), slotIndexOf_val hb]

/-- Settles O45: the refusals in order, and the retirement of one slot. -/
theorem retireCommand : Obligations.RetireCommand := by
  unfold Obligations.RetireCommand
  intro s b hp refused
  refine ⟨fun hpermit => exec_retire hp (if_pos (c := (s.disarm .site).engine.permit = false) hpermit),
    fun hpermit hb => ?_, fun hpermit i hb => ?_⟩
  · refine exec_retire hp ?_
    have hpermit' : (s.disarm .site).engine.permit = true := hpermit
    unfold retireRule
    rw [if_neg (by rw [hpermit']; exact nofun), show slotIndexOf b = none from dif_neg (Nat.not_lt.mpr hb)]
    rfl
  · have hrule := retireRule_slot (s := s.disarm .site) hb hpermit
    refine ⟨fun hlocked => exec_retire hp (hrule.trans (if_pos hlocked)), fun hlocked hstate => ?_, fun hlocked hstate => ?_⟩
    · exact exec_retire hp (hrule.trans ((if_neg (Bool.eq_false_iff.mp hlocked)).trans (if_pos hstate)))
    · intro gone told values retired
      have hrule' := hrule.trans ((if_neg (Bool.eq_false_iff.mp hlocked)).trans (if_neg (Classical.not_not.mpr hstate)))
      have hexec := exec_retire hp (hrule'.trans (acceptRetire_eq s i))
      have hnumber : numByte i.val = b := hb ▸ (setWidth_eq_numByte b).symm.trans (BitVec.setWidth_eq b)
      have hgone : ∀ g, s.generationsOf (· == i) g = true ↔ gone g := by
        intro g
        rw [State.generationsOf_iff]
        simp only [beq_iff_eq, exists_eq_left]
        rfl
      rw [hnumber] at hexec
      refine ⟨(s.retiredByCommand i).heard .site .ok ([b] ++ values), hexec, ?_, ⟨fun e => !s.generationsOf (· == i) e.generation, fun e => ?_, ?_⟩, fun l => ?_⟩
      · have hframe := s.retiredByCommand_frame i
        generalize s.retiredByCommand i = t at hframe
        exact congrArg (fun u : State => u.heard .site .ok ([b] ++ values)) hframe
      · rw [← hgone]
        simp
      · exact s.cache_retiredByCommand i
      · intro lost
        let purged := (s.lane l).loseSessions fun x => s.generationsOf (· == i) x.generation
        have hlane : ((s.retiredByCommand i).heard .site .ok ([b] ++ values)).lane l =
          if told then purged.flag .ringChanged else purged := s.lane_retiredByCommand i l
        have hsessions : (if told then purged.flag .ringChanged else purged).sessions = purged.sessions := by
          split
          · exact Lane.flag_sessions ..
          · rfl
        have hlost : ∀ e, lost e ↔
            ∃ x, ((s.lane l).sessions[e]).session = some x ∧ s.generationsOf (· == i) x.generation = true := by
          intro e
          simp only [lost, hgone]
        obtain ⟨hclosed, hkept, -, -⟩ := Lane.loseSessions_cases (s.lane l) fun x => s.generationsOf (· == i) x.generation
        obtain ⟨y, hsome, hnone, hpurged⟩ := Lane.loseSessions_over (s.lane l) fun x => s.generationsOf (· == i) x.generation
        simp only [← hlost] at hclosed hkept hsome hnone
        rw [hlane, hsessions]
        refine ⟨hclosed, hkept, y, hsome, hnone, ?_⟩
        split
        · exact (congrArg (Lane.flag .ringChanged) hpurged).trans (Lane.flag_over ..)
        · exact hpurged

/-! ### The checks of an erase (R139, R140) -/

section
variable {s : State} {op : SlotOp} {i : SlotIx} {code : Code}

theorem State.eraseCheck_engine (h : s.engineCheck = some code) : s.eraseCheck op = some code := by
  unfold State.eraseCheck
  rw [h]

theorem State.engineCheck_busy (hidle : s.idle = false) : s.engineCheck = some .busy := by
  unfold State.engineCheck
  rw [hidle]
  rfl

theorem State.engineCheck_suspended (hidle : s.idle = true) (hheld : s.engine.held ≠ none) :
    s.engineCheck = some .suspended := by
  unfold State.engineCheck
  rw [hidle]
  exact if_pos (Option.isSome_iff_ne_none.mpr hheld)

theorem State.engineCheck_free (hidle : s.idle = true) (hheld : s.engine.held = none) : s.engineCheck = none := by
  unfold State.engineCheck
  rw [hidle, hheld]
  rfl

theorem any_allSlots {p : SlotIx → Bool} : allSlots.any p = true ↔ ∃ i, p i = true := by
  simp [allSlots]

theorem State.protected_of_locked (h : s.lockedSlot i = true) : s.protectedSlot i = true := by
  cases hprotected : s.protectedSlot i with
  | true => rfl
  | false => exact absurd (h.symm.trans (State.not_locked_of_not_protected hprotected)) nofun

theorem State.eraseCheck_locked (hengine : s.engineCheck = none) (hi : op.targets i = true) (hlocked : s.lockedSlot i = true) :
    s.eraseCheck op = some .locked := by
  unfold State.eraseCheck
  rw [hengine]
  exact if_pos (any_allSlots.mpr ⟨i, by rw [hi, State.protected_of_locked hlocked, hlocked]; rfl⟩)

theorem State.eraseCheck_protected (hengine : s.engineCheck = none)
    (hunlocked : ∀ i, op.targets i = true → s.lockedSlot i = false) (hi : op.targets i = true)
    (hprotected : s.protectedSlot i = true) : s.eraseCheck op = some .areaProtected := by
  unfold State.eraseCheck
  rw [hengine]
  refine (if_neg fun h => ?_).trans (if_pos (any_allSlots.mpr ⟨i, by rw [hi, hprotected]; rfl⟩))
  obtain ⟨j, hj⟩ := any_allSlots.mp h
  simp only [Bool.and_eq_true] at hj
  exact Bool.false_ne_true ((hunlocked j hj.1.1).symm.trans hj.2)

/-- No target of the erase is protected: the check of service remains (R140). -/
theorem State.eraseCheck_unprotected (hengine : s.engineCheck = none)
    (hfree : ∀ i, op.targets i = true → s.protectedSlot i = false) :
    s.eraseCheck op = if allSlots.any fun i => op.targets i && s.inService i then some .inService else none := by
  unfold State.eraseCheck
  rw [hengine]
  refine (if_neg fun h => ?_).trans (if_neg fun h => ?_)
  · obtain ⟨j, hj⟩ := any_allSlots.mp h
    simp only [Bool.and_eq_true] at hj
    exact Bool.false_ne_true ((hfree j hj.1.1).symm.trans hj.1.2)
  · obtain ⟨j, hj⟩ := any_allSlots.mp h
    simp only [Bool.and_eq_true] at hj
    exact Bool.false_ne_true ((hfree j hj.1).symm.trans hj.2)

end

/-! ### The erase commands -/

/-- The part after the acceptance of an erase (R141). -/
def State.erasedByCommand (op : SlotOp) (time : Nat) (s : State) : State :=
  (s.spendPermit.beginErase op).startOp (.slotOp op) time

/-- The command that asks for an erase, with the number it names. -/
def SlotOp.IsAsked (op : SlotOp) (b : Byte) (c : Instr) : Prop :=
  (∃ i : SlotIx, b.toNat = i.val ∧ op = .eraseSlot i ∧ c = .eraseSlot [b]) ∨
  (∃ k : Fin 8, b.toNat = k.val ∧ op = .eraseBank k ∧ c = .eraseBank [b])

/-- The command of an erase that names the number. -/
def SlotOp.eraseCommand (op : SlotOp) (b : Byte) : Instr := match op with | .eraseBank _ => .eraseBank [b] | _ => .eraseSlot [b]

/-- The time of an erase. -/
def SlotOp.eraseTime (op : SlotOp) : Nat := match op with | .eraseBank _ => 55000 | _ => 18000

theorem State.settleRetry_eq (s : State) : s.settleRetry =
    { s with engine := { s.engine with retireRetry := s.retireOutstanding && s.engine.retireRetry } } := by
  unfold State.settleRetry
  cases s.retireOutstanding <;> rfl

/-- The slots and their records after the start of an erase (R11). -/
def State.erasedRecords (op : SlotOp) (s : State) : State :=
  (s.mapSlots fun i x => if s.erasable op i then Slot.cleared .erasing else x).mapNvSlots fun i x =>
    if s.erasable op i then { x with marker := .eraseBegun } else x

/-- The slots, records, cache and sessions after the start of an erase (R11, R61). -/
def State.erasedSlots (op : SlotOp) (s : State) : State := (s.erasedRecords op).purge (s.generationsOf (s.erasable op))

theorem State.erasedByCommand_eq (op : SlotOp) (time : Nat) (s : State) : s.erasedByCommand op time =
    { s.spendPermit.erasedSlots op with engine := { (s.spendPermit.erasedSlots op).engine with
        retireRetry := (s.spendPermit.erasedSlots op).retireOutstanding && (s.spendPermit.erasedSlots op).engine.retireRetry
        active := some { op := .slotOp op, remaining := time } } } := by
  have hbegin : s.erasedByCommand op time = (s.spendPermit.erasedSlots op).settleRetry.startOp (.slotOp op) time := rfl
  rw [hbegin]
  generalize s.spendPermit.erasedSlots op = t
  rw [State.settleRetry_eq]
  rfl

theorem State.erasedSlots_disarm (op : SlotOp) (s : State) :
    (s.disarm .site).spendPermit.erasedSlots op = (s.spendPermit.erasedSlots op).disarm .site := rfl

theorem acceptErase_eq (s : State) (op : SlotOp) (b : Byte) (time : Nat) : acceptErase op b time (s.disarm .site) =
    reply .accepted [b, numByte (allSlots.filter (s.erasable op)).length] ((s.erasedByCommand op time).disarm .site) := by
  have haccept : acceptErase op b time (s.disarm .site) = reply .accepted
    [b, numByte (allSlots.filter ((s.disarm .site).erasable op)).length] ((s.disarm .site).erasedByCommand op time) := rfl
  have hcount : (s.disarm .site).erasable op = s.erasable op := rfl
  rw [haccept, hcount, State.erasedByCommand_eq, State.erasedSlots_disarm, State.erasedByCommand_eq]
  generalize s.spendPermit.erasedSlots op = t
  rfl

theorem bankIndexOf_val {b : Byte} {k : Fin 8} (h : b.toNat = k.val) : bankIndexOf b = some k := by
  have hlt : b.toNat < 8 := h ▸ k.isLt
  exact (dif_pos hlt).trans (congrArg some (Fin.ext h))

theorem exec_eraseSlot {s t : State} {b : Byte} {code : Code} {answered : List Byte} (hp : s.Admits .site)
    (hrule : eraseSlotRule b (s.disarm .site) = reply code answered (t.disarm .site)) :
    exec (.eraseSlot [b]) s = .next (t.heard .site code answered) := by
  change execEraseSlot [b] s = _
  exact State.next_heard (a := b) hp (by simp) hrule

theorem exec_eraseBank {s t : State} {b : Byte} {code : Code} {answered : List Byte} (hp : s.Admits .site)
    (hrule : eraseBankRule b (s.disarm .site) = reply code answered (t.disarm .site)) :
    exec (.eraseBank [b]) s = .next (t.heard .site code answered) := by
  change execEraseBank [b] s = _
  exact State.next_heard (a := b) hp (by simp) hrule

section
variable {s : State} {op : SlotOp} {b : Byte} {c : Instr} (hp : s.Admits .site) (hc : op.IsAsked b c)
  (hpermit : s.engine.permit = true)
include hp hc hpermit

/-- An erase that a check refuses changes nothing but the transaction (R139). -/
theorem exec_erase_refused {code : Code} (hcheck : s.eraseCheck op = some code) : exec c s = .next (s.heard .site code []) := by
  have hcheck' : (s.disarm .site).eraseCheck op = some code := hcheck
  have hpermit' : ¬(s.disarm .site).engine.permit = false := by
    rw [show (s.disarm .site).engine.permit = true from hpermit]
    exact nofun
  rcases hc with ⟨i, hi, rfl, rfl⟩ | ⟨k, hk, rfl, rfl⟩
  · refine exec_eraseSlot hp ?_
    unfold eraseSlotRule
    rw [if_neg hpermit', slotIndexOf_val hi]
    dsimp only
    rw [hcheck']
    rfl
  · refine exec_eraseBank hp ?_
    unfold eraseBankRule
    rw [if_neg hpermit', bankIndexOf_val hk]
    dsimp only
    rw [hcheck']
    rfl

/-- An erase that passes its checks is accepted (R141). -/
theorem exec_erase_accepted (hcheck : s.eraseCheck op = none) : exec c s =
    .next ((s.erasedByCommand op op.eraseTime).heard .site .accepted [b, numByte (allSlots.filter (s.erasable op)).length]) := by
  have hcheck' : (s.disarm .site).eraseCheck op = none := hcheck
  have hpermit' : ¬(s.disarm .site).engine.permit = false := by
    rw [show (s.disarm .site).engine.permit = true from hpermit]
    exact nofun
  rcases hc with ⟨i, hi, rfl, rfl⟩ | ⟨k, hk, rfl, rfl⟩
  · refine exec_eraseSlot hp ?_
    unfold eraseSlotRule
    rw [if_neg hpermit', slotIndexOf_val hi]
    dsimp only
    rw [hcheck']
    exact acceptErase_eq ..
  · refine exec_eraseBank hp ?_
    unfold eraseBankRule
    rw [if_neg hpermit', bankIndexOf_val hk]
    dsimp only
    rw [hcheck']
    exact acceptErase_eq ..

end

/-- Settles O42: the refusals in the order of the checks. -/
theorem erasesAreRefused : Obligations.ErasesAreRefused := by
  unfold Obligations.ErasesAreRefused
  intro s b hp refused
  refine ⟨fun hpermit => ⟨?_, ?_⟩, fun hpermit => ⟨fun hb => ?_, fun hb => ?_, fun c op hc => ⟨fun hidle => ?_, fun hidle hheld => ?_,
    fun hidle hheld => ⟨fun i hi hlocked => ?_, fun hunlocked => ⟨fun i hi hprotected => ?_, fun hfree i hi hstate hplace => ?_⟩⟩⟩⟩⟩
  · exact exec_eraseSlot hp (if_pos (c := (s.disarm .site).engine.permit = false) hpermit)
  · exact exec_eraseBank hp (if_pos (c := (s.disarm .site).engine.permit = false) hpermit)
  · refine exec_eraseSlot hp ?_
    have hpermit' : (s.disarm .site).engine.permit = true := hpermit
    unfold eraseSlotRule
    rw [if_neg (by rw [hpermit']; exact nofun), show slotIndexOf b = none from dif_neg (Nat.not_lt.mpr hb)]
    rfl
  · refine exec_eraseBank hp ?_
    have hpermit' : (s.disarm .site).engine.permit = true := hpermit
    unfold eraseBankRule
    rw [if_neg (by rw [hpermit']; exact nofun), show bankIndexOf b = none from dif_neg (Nat.not_lt.mpr hb)]
    rfl
  · exact exec_erase_refused hp hc hpermit (State.eraseCheck_engine (State.engineCheck_busy hidle))
  · exact exec_erase_refused hp hc hpermit (State.eraseCheck_engine (State.engineCheck_suspended hidle hheld))
  · exact exec_erase_refused hp hc hpermit (State.eraseCheck_locked (State.engineCheck_free hidle hheld) hi hlocked)
  · exact exec_erase_refused hp hc hpermit
      (State.eraseCheck_protected (State.engineCheck_free hidle hheld) hunlocked hi hprotected)
  · refine exec_erase_refused hp hc hpermit
      ((State.eraseCheck_unprotected (State.engineCheck_free hidle hheld) hfree).trans (if_pos (any_allSlots.mpr ⟨i, ?_⟩)))
    have hservice : s.inService i = true := by
      unfold State.inService
      rcases hplace with h | h <;> simp [hstate, h]
    rw [hi, hservice]
    rfl

/-! ### The accepted erase -/

theorem State.eraseCheck_free {s : State} {op : SlotOp} (hidle : s.idle = true) (hheld : s.engine.held = none)
    (hfree : ∀ i, op.targets i = true → s.protectedSlot i = false ∧ s.inService i = false) : s.eraseCheck op = none := by
  refine (State.eraseCheck_unprotected (State.engineCheck_free hidle hheld) fun i hi => (hfree i hi).1).trans (if_neg fun h => ?_)
  obtain ⟨i, hi⟩ := any_allSlots.mp h
  simp only [Bool.and_eq_true] at hi
  exact Bool.false_ne_true ((hfree i hi.1).2.symm.trans hi.2)

section
variable (s : State) (op : SlotOp) (time : Nat)

theorem State.purge_frame (gone : Gen → Bool) :
    s.purge gone = { s with cache := (s.purge gone).cache, lanes := (s.purge gone).lanes } := rfl

theorem State.erasedRecords_frame : s.erasedRecords op =
    { s with store := (s.erasedRecords op).store, array := (s.erasedRecords op).array } := by
  unfold State.erasedRecords State.mapNvSlots State.mapSlots
  rfl

theorem State.geometry_erasedRecords : (s.erasedRecords op).store.geometry = s.store.geometry := by
  unfold State.erasedRecords State.mapNvSlots State.mapSlots
  rfl

theorem State.array_erasedRecords : (s.erasedRecords op).array = { s.array with slots := (s.erasedRecords op).array.slots } := by
  unfold State.erasedRecords State.mapNvSlots State.mapSlots
  rfl

theorem State.erasedSlots_frame : s.erasedSlots op =
    { s with store := (s.erasedRecords op).store, array := (s.erasedRecords op).array, lanes := (s.erasedSlots op).lanes,
             cache := (s.erasedSlots op).cache } := by
  have hrecords := s.erasedRecords_frame op
  have hpurge : s.erasedSlots op = { s.erasedRecords op with cache := (s.erasedSlots op).cache, lanes := (s.erasedSlots op).lanes } :=
    State.purge_frame ..
  generalize s.erasedRecords op = u at hrecords hpurge
  generalize s.erasedSlots op = t at hpurge
  exact hpurge.trans (congrArg (fun v : State => { v with cache := t.cache, lanes := t.lanes }) hrecords)

theorem State.slot_erasedRecords (i : SlotIx) :
    (s.erasedRecords op).slot i = if s.erasable op i then Slot.cleared .erasing else s.slot i := by
  unfold State.erasedRecords
  rw [State.slot_mapNvSlots, State.slot_mapSlots]

theorem State.nvSlot_erasedRecords (i : SlotIx) :
    (s.erasedRecords op).nvSlot i = if s.erasable op i then { s.nvSlot i with marker := .eraseBegun } else s.nvSlot i := by
  unfold State.erasedRecords
  rw [State.nvSlot_mapNvSlots, State.nvSlot_mapSlots]

theorem State.erasedByCommand_frame : s.erasedByCommand op time =
    { s with store := (s.spendPermit.erasedRecords op).store, array := (s.spendPermit.erasedRecords op).array,
             lanes := (s.erasedByCommand op time).lanes, cache := (s.erasedByCommand op time).cache,
             engine := { s.engine with permit := false, retireRetry := (s.erasedByCommand op time).engine.retireRetry,
                                       active := some { op := .slotOp op, remaining := time } } } := by
  have hframe := s.spendPermit.erasedSlots_frame op
  have hengine : (s.spendPermit.erasedSlots op).engine = s.spendPermit.engine := by rw [hframe]
  rw [State.erasedByCommand_eq]
  generalize s.spendPermit.erasedRecords op = u at hframe
  generalize s.spendPermit.erasedSlots op = t at hframe hengine
  rw [hengine]
  exact congrArg (fun u : State => { u with engine := { s.engine with
    permit := false, retireRetry := t.retireOutstanding && s.spendPermit.engine.retireRetry
    active := some { op := .slotOp op, remaining := time } } }) hframe

theorem State.cache_erasedByCommand : (s.erasedByCommand op time).cache =
    s.cache.filter fun e => !s.generationsOf (s.erasable op) e.generation := by
  have hpurge := State.purge_cache (s := s.spendPermit.erasedRecords op) (s.spendPermit.generationsOf (s.spendPermit.erasable op))
  have hcache : (s.spendPermit.erasedRecords op).cache = s.cache := by rw [State.erasedRecords_frame]; rfl
  rw [hcache] at hpurge
  rw [State.erasedByCommand_eq]
  unfold State.erasedSlots
  exact hpurge

theorem State.lane_erasedByCommand (l : LaneIx) : (s.erasedByCommand op time).lane l =
    (s.lane l).loseSessions fun x => s.generationsOf (s.erasable op) x.generation := by
  have hpurge := State.lane_purge (s := s.spendPermit.erasedRecords op) (s.spendPermit.generationsOf (s.spendPermit.erasable op)) l
  have hlane : (s.spendPermit.erasedRecords op).lane l = s.lane l := by
    unfold State.erasedRecords
    rw [State.lane_mapNvSlots, State.lane_mapSlots]
    rfl
  rw [hlane] at hpurge
  rw [State.erasedByCommand_eq]
  unfold State.erasedSlots
  exact hpurge

end

/-- Settles O41: the acceptance, slot by slot and lane by lane. -/
theorem erasesBegin : Obligations.ErasesBegin := by
  unfold Obligations.ErasesBegin
  intro s b op hp hop hpermit hidle hheld hfree erased gone
  have hc : op.IsAsked b (op.eraseCommand b) := by
    rcases hop with ⟨i, hi, rfl⟩ | ⟨k, hk, rfl⟩
    · exact .inl ⟨i, hi, rfl, rfl⟩
    · exact .inr ⟨k, hk, rfl, rfl⟩
  have herased : ∀ i, erased i ↔ s.erasable op i = true := fun i => by simp [erased, State.erasable]
  have hgone : ∀ g, gone g ↔ s.generationsOf (s.erasable op) g = true := fun g => by
    rw [State.generationsOf_iff]
    simp only [gone, herased]
  have hnumber : (allSlots.filter fun i => decide (erased i)) = allSlots.filter (s.erasable op) :=
    List.filter_congr fun i _ => Bool.eq_iff_iff.mpr (decide_eq_true_iff.trans (herased i))
  have hexec : exec (op.eraseCommand b) s = _ := exec_erase_accepted hp hc hpermit (State.eraseCheck_free hidle hheld hfree)
  rw [← hnumber] at hexec
  have hframe := s.erasedByCommand_frame op op.eraseTime
  have hslot := s.spendPermit.slot_erasedRecords op
  have hnvSlot := s.spendPermit.nvSlot_erasedRecords op
  have hcache := s.cache_erasedByCommand op op.eraseTime
  have hlane := s.lane_erasedByCommand op op.eraseTime
  have hgeometry := s.spendPermit.geometry_erasedRecords op
  have hslots := s.spendPermit.array_erasedRecords op
  generalize s.erasedByCommand op op.eraseTime = t at hexec hframe hcache hlane
  generalize s.spendPermit.erasedRecords op = u at hframe hslot hnvSlot hgeometry hslots
  have hstore : t.store = u.store := by rw [hframe]
  have harray : t.array = u.array := by rw [hframe]
  have hslot' : ∀ i, t.slot i = if s.erasable op i then Slot.cleared .erasing else s.slot i := fun i =>
    (congrArg (fun k : KeyStore => k.slots[i]) hstore).trans (hslot i)
  have hnvSlot' : ∀ i, t.nvSlot i = if s.erasable op i then { s.nvSlot i with marker := .eraseBegun } else s.nvSlot i := fun i =>
    (congrArg (fun a : NvArray => a.slots[i]) harray).trans (hnvSlot i)
  rw [← hstore, ← harray] at hframe
  refine ⟨_, hexec, ?_, (congrArg KeyStore.geometry hstore).trans hgeometry, fun i hi => ⟨?_, ?_⟩, fun i hi => ⟨?_, ?_⟩, ?_,
    ⟨fun e => !s.generationsOf (s.erasable op) e.generation, fun e => ?_, hcache⟩, fun l => ?_⟩
  · exact congrArg (fun u : State => u.heard .site .accepted [b, numByte (allSlots.filter fun i => decide (erased i)).length]) hframe
  · exact (hslot' i).trans (if_pos ((herased i).mp hi))
  · exact (hnvSlot' i).trans (if_pos ((herased i).mp hi))
  · exact (hslot' i).trans (if_neg ((not_congr (herased i)).mp hi))
  · exact (hnvSlot' i).trans (if_neg ((not_congr (herased i)).mp hi))
  · change t.array = { s.array with slots := t.array.slots }
    rw [harray]
    exact hslots
  · rw [hgone]
    simp
  · intro lost
    have hlost : ∀ e, lost e ↔
        ∃ x, ((s.lane l).sessions[e]).session = some x ∧ s.generationsOf (s.erasable op) x.generation = true := fun e => by
      simp only [lost, hgone]
    have hcases := Lane.loseSessions_cases (s.lane l) fun x => s.generationsOf (s.erasable op) x.generation
    simp only [← hlost] at hcases
    rw [← hlane l] at hcases
    exact hcases

end Sys2Proof.Machine

/-! PROOFS. The order of the internal writes, and the completions of the write engine's programs, erases and internal record
writes (R9, R12, R45, R46, R118, R119, R152 to R154). -/

namespace Sys2Proof.Machine

/-! ### The order of the internal writes -/

section
variable {s : State}

theorem State.startInternal_counter {r : CounterRequest} (h : s.engine.counterRequest = some r) : s.startInternal =
    { s with engine := { s.engine with
      counterRequest := none, active := some { op := .reservation r.limit r.retry, remaining := 1000 } } } := by
  unfold State.startInternal
  rw [h]
  rfl

theorem State.startInternal_generation {r : GenRequest} (hc : s.engine.counterRequest = none)
    (h : s.engine.genRequest = some r) : s.startInternal =
    { s with engine := { s.engine with
      genRequest := none, active := some { op := .genRecord r.c r.h r.retry, remaining := 1000 } } } := by
  unfold State.startInternal
  rw [hc, h]
  rfl

theorem State.startInternal_marks (hc : s.engine.counterRequest = none) (hg : s.engine.genRequest = none)
    (h : s.retireOutstanding = true) : s.startInternal =
    { s with engine := { s.engine with
      retireRetry := false, active := some { op := .retireMarks s.retireSet s.engine.retireRetry, remaining := 1000 } } } := by
  unfold State.startInternal
  rw [hc, hg]
  exact if_pos h

theorem execInternalWriteStart_idle (hp : s.power = .running) (hreq : s.requestOutstanding = true)
    (ha : s.engine.active = none) : execInternalWriteStart s = .next s.startInternal := by
  unfold execInternalWriteStart
  rw [if_pos ⟨hp, hreq⟩, ha]

theorem execInternalWriteStart_active {a : ActiveOp} (hp : s.power = .running) (hreq : s.requestOutstanding = true)
    (ha : s.engine.active = some a) : execInternalWriteStart s =
    if a.isErase && s.engine.held.isNone then .next (s.holdActive .auto).startInternal else .next s := by
  unfold execInternalWriteStart
  rw [if_pos ⟨hp, hreq⟩, ha]

theorem State.proceed_request (hreq : s.requestOutstanding = true) : s.proceed = s.startInternal := if_pos hreq

theorem State.proceed_resume {op : SlotOp} {left : Nat} (hreq : s.requestOutstanding = false)
    (h : s.engine.held = some { op := op, remaining := left, by_ := .auto }) : s.proceed =
    { s with engine := { s.engine with active := some { op := .slotOp op, remaining := left }, held := none } } := by
  unfold State.proceed
  rw [hreq, h]
  rfl

theorem State.proceed_idle (hreq : s.requestOutstanding = false) (h : ∀ x, s.engine.held = some x → x.by_ = .site) :
    s.proceed = s := by
  unfold State.proceed
  rw [hreq]
  refine (if_neg nofun).trans ?_
  split
  · rename_i hx
    cases h _ hx
  · rfl

end

theorem ActiveOp.isErase_slotOp {op : SlotOp} {left : Nat} (h : op.isProgram = false) :
    ActiveOp.isErase { op := .slotOp op, remaining := left } = true := by
  cases op with
  | program i => cases h
  | eraseSlot i => rfl
  | eraseBank k => rfl

/-- An operation that is not a site erase is waited for (R152). -/
theorem ActiveOp.not_isErase {a : ActiveOp} (h : ∀ op, a.op = .slotOp op → op.isProgram = true) : a.isErase = false := by
  obtain ⟨op, left⟩ := a
  cases op with
  | slotOp o =>
    cases o with
    | program i => rfl
    | eraseSlot i => cases h _ rfl
    | eraseBank k => cases h _ rfl
  | _ => rfl

/-- Settles O60: the three writes in their order, and what the engine does when none is outstanding. -/
theorem internalWritesGoInOrder : Obligations.InternalWritesGoInOrder := by
  unfold Obligations.InternalWritesGoInOrder
  intro s writes
  have hwrites : ∀ t, writes t t.startInternal := fun t =>
    ⟨fun _ h => State.startInternal_counter h, fun hc _ h => State.startInternal_generation hc h,
      fun hc hg h => State.startInternal_marks hc hg h⟩
  refine ⟨fun hp hreq => ⟨fun ha => ⟨_, execInternalWriteStart_idle hp hreq ha, hwrites s⟩, fun op left ha hop hheld => ?_,
    fun a ha hwait => ?_⟩, fun hreq => ?_, fun hreq => ⟨fun op left h => State.proceed_resume hreq h,
      fun h => State.proceed_idle hreq h⟩⟩
  · have herase : (ActiveOp.isErase { op := .slotOp op, remaining := left } && s.engine.held.isNone) = true := by
      rw [ActiveOp.isErase_slotOp hop, hheld]
      rfl
    refine ⟨(s.holdActive .auto).startInternal, (execInternalWriteStart_active hp hreq ha).trans (if_pos herase), ?_⟩
    rw [State.holdActive_slotOp .auto ha]
    exact hwrites _
  · refine (execInternalWriteStart_active hp hreq ha).trans (if_neg fun h => ?_)
    obtain ⟨herase, hnone⟩ := Bool.and_eq_true_iff.mp h
    rcases hwait with hwait | hwait
    · exact Bool.false_ne_true ((ActiveOp.not_isErase hwait).symm.trans herase)
    · exact hwait (Option.isNone_iff_eq_none.mp hnone)
  · rw [State.proceed_request hreq]
    exact hwrites s

/-! ### The moment of a completion -/

theorem State.untilComplete_active {s : State} {op : Operation} {left : Nat}
    (h : s.engine.active = some { op := op, remaining := left }) : s.untilComplete = s.engine.restLeft + left := by
  unfold State.untilComplete
  rw [h]

/-- What the completions of the write engine read is as it was when they waited for their moment (R66, R145). -/
structure State.Waited (s t : State) : Prop where
  array : t.array = s.array
  store : t.store = s.store
  lanes : t.lanes = s.lanes
  site : t.site = s.site
  counter : t.counter = s.counter
  cache : t.cache = s.cache
  protection : t.protection = s.protection
  laneEnable : t.laneEnable = s.laneEnable
  draws : t.draws = s.draws
  faults : t.engine.faults = s.engine.faults
  genRequest : t.engine.genRequest = s.engine.genRequest

theorem State.waited (s : State) (n : Nat) : s.Waited (s.wait n) where
  array := s.wait_array n
  store := s.wait_store n
  lanes := s.wait_lanes n
  site := s.wait_site n
  counter := s.wait_counter n
  cache := s.wait_cache n
  protection := s.wait_protection n
  laneEnable := s.wait_laneEnable n
  draws := s.wait_draws n
  faults := s.wait_engine_faults n
  genRequest := s.wait_engine_genRequest n

/-! ### The internal record writes -/

theorem State.retryGenRecord_none {s : State} (h : s.engine.genRequest = none) : s.retryGenRecord =
    { s with engine := { s.engine with genRequest := some { c := s.ring.c, h := s.ring.h, retry := true } } } := by
  unfold State.retryGenRecord
  rw [h]

theorem State.retryGenRecord_some {s : State} (h : s.engine.genRequest ≠ none) : s.retryGenRecord = s := by
  unfold State.retryGenRecord
  obtain ⟨r, hr⟩ := Option.ne_none_iff_exists'.mp h
  rw [hr]

/-- Settles O58: each completion by its report and its retry mark. -/
theorem internalRecordsComplete : Obligations.InternalRecordsComplete := by
  unfold Obligations.InternalRecordsComplete
  refine ⟨fun s limit left retry ha => ?reservation, fun s c h left retry ha => ?generation⟩
  case reservation =>
    have hw := s.waited (s.engine.restLeft + left)
    have hexec : ∀ v, exec (.reservationComplete v) s = execReservationComplete v s := fun v => rfl
    simp only [hexec, execReservationComplete, ha, State.untilComplete_active ha]
    generalize s.wait (s.engine.restLeft + left) = due at hw
    rw [← hw.array, ← hw.counter, ← hw.faults, ← hw.site]
    refine ⟨rfl, fun hretry => ?_, fun hretry => ?_⟩
    · subst hretry
      rfl
    · subst hretry
      rfl
  case generation =>
    have hw := s.waited (s.engine.restLeft + left)
    have hexec : ∀ v, exec (.genRecordComplete v) s = execGenRecordComplete v s := fun v => rfl
    have hc : (s.wait (s.engine.restLeft + left)).ring.c = s.ring.c := State.wait_ring_c ..
    have hh : (s.wait (s.engine.restLeft + left)).ring.h = s.ring.h := State.wait_ring_h ..
    simp only [hexec, execGenRecordComplete, ha, State.untilComplete_active ha]
    generalize s.wait (s.engine.restLeft + left) = due at hw hc hh
    rw [← hw.array, ← hw.faults, ← hw.site, ← hw.genRequest, ← hc, ← hh]
    refine ⟨rfl, fun hretry hreq => ?_, fun hretry hreq => ?_, fun hretry => ?_⟩
    · subst hretry
      exact congrArg (fun t : State => Host.Outcome.next t.proceed)
        (State.retryGenRecord_some (s := due.endOp.putGeneration .damaged) hreq)
    · subst hretry
      exact congrArg (fun t : State => Host.Outcome.next t.proceed)
        (State.retryGenRecord_none (s := due.endOp.putGeneration .damaged) hreq)
    · subst hretry
      rfl

/-! ### The settings writes at their moment -/

section
variable {s : State} {left : Nat} {r : Settings}

theorem exec_setRotationComplete (ha : s.engine.active = some { op := .settings .rotation r, remaining := left }) (v : Bool) :
    exec (.setRotationComplete v) s = .next ((s.wait (s.engine.restLeft + left)).finishSettings .rotation r (applyRotation r) v) := by
  change execSetRotationComplete v s = _
  unfold execSetRotationComplete
  rw [ha, State.untilComplete_active ha]

theorem exec_setWindowComplete (ha : s.engine.active = some { op := .settings .window r, remaining := left }) (v : Bool) :
    exec (.setWindowComplete v) s = .next ((s.wait (s.engine.restLeft + left)).finishSettings .window r (applyWindow r) v) := by
  change execSetWindowComplete v s = _
  unfold execSetWindowComplete
  rw [ha, State.untilComplete_active ha]

theorem exec_setProtectNvComplete {a : FixedArea} (ha : s.engine.active = some { op := .settings (.protect a) r, remaining := left }) (v : Bool) :
    exec (.setProtectNvComplete v) s = .next ((s.wait (s.engine.restLeft + left)).finishSettings (.protect a) r (applyProtect a r) v) := by
  change execSetProtectNvComplete v s = _
  unfold execSetProtectNvComplete
  rw [ha, State.untilComplete_active ha]

theorem exec_setFreezeComplete (ha : s.engine.active = some { op := .settings .freeze r, remaining := left }) (v : Bool) :
    exec (.setFreezeComplete v) s = .next ((s.wait (s.engine.restLeft + left)).finishSettings .freeze r (applyFreeze r) v) := by
  change execSetFreezeComplete v s = _
  unfold execSetFreezeComplete
  rw [ha, State.untilComplete_active ha]

theorem exec_setSiteComplete (ha : s.engine.active = some { op := .settings .site r, remaining := left }) (v : Bool) :
    exec (.setSiteComplete v) s = .next ((s.wait (s.engine.restLeft + left)).finishSettings .site r (applySite r) v) := by
  change execSetSiteComplete v s = _
  unfold execSetSiteComplete
  rw [ha, State.untilComplete_active ha]

theorem exec_setLanesComplete (ha : s.engine.active = some { op := .settings .lanes r, remaining := left }) (v : Bool) :
    exec (.setLanesComplete v) s = .next ((s.wait (s.engine.restLeft + left)).finishSettings .lanes r (applyLanes r) v) := by
  change execSetLanesComplete v s = _
  unfold execSetLanesComplete
  rw [ha, State.untilComplete_active ha]

theorem exec_lockAreaComplete {a : FixedArea} (ha : s.engine.active = some { op := .settings (.lock a) r, remaining := left })
    (v cell : Bool) : exec (.lockAreaComplete v cell) s =
    if v = false then .next ((s.wait (s.engine.restLeft + left)).settingsFailed (.lock a))
    else if cell then .next ((s.wait (s.engine.restLeft + left)).settingsDone (.lock a) r (applyLock a))
    else .next ((s.wait (s.engine.restLeft + left)).lockCellFailed a r) := by
  change execLockAreaComplete v cell s = _
  unfold execLockAreaComplete
  rw [ha, State.untilComplete_active ha]

theorem exec_setGeometryComplete {c0 : Gen}
    (ha : s.engine.active = some { op := .settings (.geometry c0) r, remaining := left }) (v : Bool) :
    exec (.setGeometryComplete v) s = if v then
      .next ((((s.wait (s.engine.restLeft + left)).putGeneration (.good { live := true, c := c0, h := 0 })).faultGeneration
        false).settingsDone (.geometry c0) r (applyGeometry c0 r))
    else .next ((((s.wait (s.engine.restLeft + left)).putGeneration .damaged).faultGeneration true).settingsFailed
      (.geometry c0)) := by
  change execSetGeometryComplete v s = _
  unfold execSetGeometryComplete
  rw [ha, State.untilComplete_active ha]

end

/-! ### Failed settings writes -/

/-- Settles O55: nothing of the write is applied. -/
theorem settingsFail : Obligations.SettingsFail := by
  unfold Obligations.SettingsFail
  intro s left command r c ha
  have hw := s.waited (s.engine.restLeft + left)
  dsimp only
  refine ⟨?plain, fun c0 hc0 => ?geometry, fun a hlock => ?cell⟩
  case plain =>
    have hend : (s.wait (s.engine.restLeft + left)).settingsFailed command =
        ({ s.wait (s.engine.restLeft + left) with
           array := { s.array with settings := .damaged }
           engine := { (s.wait (s.engine.restLeft + left)).engine with
             active := none, faults := { s.engine.faults with settings := true }
             lastOutcome := some { kind := .settings, target := .command command, code := .settingsFail } }
           site := { s.site with flags := s.site.flags ||| SiteFlag.nvFailed.bit } } : State).proceed := by
      generalize s.wait (s.engine.restLeft + left) = due at hw
      rw [← hw.array, ← hw.faults, ← hw.site]
      rfl
    rw [← hend]
    rintro (⟨rfl, rfl⟩ | ⟨rfl, rfl⟩ | ⟨a, rfl, rfl⟩ | ⟨a, cell, rfl, rfl⟩ | ⟨rfl, rfl⟩ | ⟨rfl, rfl⟩ | ⟨rfl, rfl⟩)
    · exact exec_setRotationComplete ha false
    · exact exec_setWindowComplete ha false
    · exact exec_setProtectNvComplete ha false
    · exact exec_lockAreaComplete ha false cell
    · exact exec_setFreezeComplete ha false
    · exact exec_setSiteComplete ha false
    · exact exec_setLanesComplete ha false
  case geometry =>
    subst hc0
    rw [exec_setGeometryComplete ha false]
    generalize s.wait (s.engine.restLeft + left) = due at hw
    rw [← hw.array, ← hw.faults, ← hw.site]
    rfl
  case cell =>
    subst hlock
    rw [exec_lockAreaComplete ha true false]
    generalize s.wait (s.engine.restLeft + left) = due at hw
    rw [← hw.array, ← hw.site]
    rfl

/-! ### The retire-mark write -/

section
variable (s : State) (taken : List SlotIx)

theorem State.slot_dropMarks (i : SlotIx) :
    (s.dropMarks taken).slot i = if taken.contains i then { s.slot i with markPending := false } else s.slot i := by
  unfold State.dropMarks
  rw [State.slot_mapSlots]

theorem State.nvSlot_dropMarks (i : SlotIx) : (s.dropMarks taken).nvSlot i = s.nvSlot i := by
  unfold State.dropMarks
  rw [State.nvSlot_mapSlots]

theorem State.nvSlot_writeMarks (i : SlotIx) :
    (s.writeMarks taken).nvSlot i = if taken.contains i then { s.nvSlot i with marker := .retireMarked } else s.nvSlot i := by
  unfold State.writeMarks
  rw [State.nvSlot_mapNvSlots]
  rfl

theorem State.slot_writeMarks (i : SlotIx) : (s.writeMarks taken).slot i = s.slot i := by
  unfold State.writeMarks
  rw [State.slot_mapNvSlots]

theorem State.slot_scatterMarks (i : SlotIx) : (s.scatterMarks taken).slot i = s.slot i := by
  have hstore : (s.scatterMarks taken).store = s.store := by
    unfold State.scatterMarks State.mapNvSlots
    rfl
  simp only [State.slot, hstore]

theorem State.scatterMarks_frame : s.scatterMarks taken =
    { s with array := (s.scatterMarks taken).array, draws := s.draws + 1 } := by
  unfold State.scatterMarks State.mapNvSlots
  rfl

theorem State.array_scatterMarks :
    (s.scatterMarks taken).array = { s.array with slots := (s.scatterMarks taken).array.slots } := by
  unfold State.scatterMarks State.mapNvSlots
  rfl

end

/-- The end of a retire-mark write that verified (R14). -/
theorem State.writeMarks_dropMarks (s : State) (taken : List SlotIx) :
    (s.writeMarks taken).dropMarks taken =
      { s with store := ((s.writeMarks taken).dropMarks taken).store
               array := ((s.writeMarks taken).dropMarks taken).array } ∧
    ((s.writeMarks taken).dropMarks taken).array =
      { s.array with slots := ((s.writeMarks taken).dropMarks taken).array.slots } ∧
    ((s.writeMarks taken).dropMarks taken).store.geometry = s.store.geometry ∧
    (∀ i, ((s.writeMarks taken).dropMarks taken).nvSlot i = (s.writeMarks taken).nvSlot i) ∧
    (∀ i, ((s.writeMarks taken).dropMarks taken).slot i =
      if taken.contains i then { s.slot i with markPending := false } else s.slot i) := by
  refine ⟨?_, ?_, ?_, fun i => State.nvSlot_dropMarks .., fun i => ?_⟩
  · unfold State.dropMarks State.writeMarks State.mapSlots State.mapNvSlots
    rfl
  · unfold State.dropMarks State.writeMarks State.mapSlots State.mapNvSlots
    rfl
  · unfold State.dropMarks State.writeMarks State.mapSlots State.mapNvSlots
    rfl
  · rw [State.slot_dropMarks, State.slot_writeMarks]

/-- The end of a retire-mark write whose retry failed (R14, R154). -/
theorem State.scatterMarks_dropMarks (s : State) (taken : List SlotIx) :
    (s.scatterMarks taken).dropMarks taken =
      { s with store := ((s.scatterMarks taken).dropMarks taken).store, draws := s.draws + 1
               array := ((s.scatterMarks taken).dropMarks taken).array } ∧
    ((s.scatterMarks taken).dropMarks taken).array =
      { s.array with slots := ((s.scatterMarks taken).dropMarks taken).array.slots } ∧
    ((s.scatterMarks taken).dropMarks taken).store.geometry = s.store.geometry ∧
    (∀ i, ((s.scatterMarks taken).dropMarks taken).nvSlot i = (s.scatterMarks taken).nvSlot i) ∧
    (∀ i, ((s.scatterMarks taken).dropMarks taken).slot i =
      if taken.contains i then { s.slot i with markPending := false } else s.slot i) := by
  refine ⟨?_, ?_, ?_, fun i => State.nvSlot_dropMarks .., fun i => ?_⟩
  · unfold State.dropMarks State.scatterMarks State.mapSlots State.mapNvSlots
    rfl
  · unfold State.dropMarks State.scatterMarks State.mapSlots State.mapNvSlots
    rfl
  · unfold State.dropMarks State.scatterMarks State.mapSlots State.mapNvSlots
    rfl
  · rw [State.slot_dropMarks, State.slot_scatterMarks]

/-- The records of the slots that a failed retire-mark write had not taken stand (R14). -/
theorem State.nvSlot_scatterMarks_untaken (s : State) {taken : List SlotIx} {i : SlotIx} (hi : i ∉ taken) :
    (s.scatterMarks taken).nvSlot i = s.nvSlot i :=
  (s.scatterMarks_nvSlot taken i).resolve_right fun h => hi h.1

/-- No slot has joined the retire-mark set since the write took its slots (R14). -/
theorem State.retireOutstanding_taken {s : State} {taken : List SlotIx} {retry : Bool}
    (ha : s.engine.active.map (·.op) = some (.retireMarks taken retry)) :
    (!s.retireOutstanding) = true ↔ ∀ i, (s.slot i).markPending = true → i ∈ taken := by
  have htaken : s.takenMarks = taken := by
    obtain ⟨⟨op, left⟩, hactive, rfl⟩ := Option.map_eq_some_iff.mp ha
    unfold State.takenMarks
    rw [hactive]
  unfold State.retireOutstanding State.retireSet
  rw [htaken]
  simp [allSlots]

theorem exec_retireMarkComplete {s : State} {taken : List SlotIx} {left : Nat} {retry : Bool}
    (ha : s.engine.active = some { op := .retireMarks taken retry, remaining := left }) (v : Bool) :
    exec (.retireMarkComplete v) s =
    if v then .next ((((s.wait (s.engine.restLeft + left)).endOp.writeMarks taken).dropMarks taken).faultRetireMarks false).proceed
    else if retry then
      .next (((((s.wait (s.engine.restLeft + left)).endOp.scatterMarks taken).dropMarks taken).faultRetireMarks true).flagSite
        .nvFailed).proceed
    else .next ({ (s.wait (s.engine.restLeft + left)).endOp.scatterMarks taken with
      engine := { ((s.wait (s.engine.restLeft + left)).endOp.scatterMarks taken).engine with
        retireRetry := !(s.wait (s.engine.restLeft + left)).retireOutstanding } }).proceed := by
  change execRetireMarkComplete v s = _
  unfold execRetireMarkComplete
  rw [ha, State.untilComplete_active ha]

/-- A state with the same array has the same slot records. -/
theorem State.nvSlot_of_array {s t : State} (h : t.array = s.array) (i : SlotIx) : t.nvSlot i = s.nvSlot i :=
  congrArg (fun a : NvArray => a.slots[i]) h

/-- A state with the same key store has the same slots. -/
theorem State.slot_of_store {s t : State} (h : t.store = s.store) (i : SlotIx) : t.slot i = s.slot i :=
  congrArg (fun k : KeyStore => k.slots[i]) h

/-- Settles O59: the markers that landed, and the marks that are dropped. -/
theorem retireMarksComplete : Obligations.RetireMarksComplete := by
  unfold Obligations.RetireMarksComplete
  intro s taken left retry ha
  have hw := s.waited (s.engine.restLeft + left)
  have hslot : ∀ i, (s.wait (s.engine.restLeft + left)).endOp.slot i = s.slot i := State.slot_of_store (s := s) hw.store
  have hnv : ∀ i, (s.wait (s.engine.restLeft + left)).endOp.nvSlot i = s.nvSlot i := State.nvSlot_of_array (s := s) hw.array
  have hjoined := State.retireOutstanding_taken (State.wait_active (n := s.engine.restLeft + left) ha)
  have hend := exec_retireMarkComplete ha
  simp only [← hnv]
  generalize s.wait (s.engine.restLeft + left) = due at hw hslot hnv hjoined hend
  have hpending : ∀ i, due.slot i = s.slot i := hslot
  simp only [hpending] at hjoined
  rw [← hw.array, ← hw.store, ← hw.faults, ← hw.site, ← hw.draws]
  have hcontains : ∀ i, taken.contains i = true ↔ i ∈ taken := fun i => List.contains_iff_mem
  refine ⟨⟨_, hend true, ?_⟩, fun hretry => ?_, fun hretry => ?_⟩
  · obtain ⟨hframe, harray, hgeometry, hnv', hslot'⟩ := due.endOp.writeMarks_dropMarks taken
    have hmarks := due.endOp.nvSlot_writeMarks taken
    simp only [← hnv'] at hmarks
    generalize (due.endOp.writeMarks taken).dropMarks taken = d at hframe harray hgeometry hslot' hmarks
    refine ⟨congrArg (State.faultRetireMarks false) hframe, hgeometry, harray, fun i hi => ⟨?_, ?_⟩,
      fun i hi => ⟨?_, ?_⟩⟩
    · exact (hmarks i).trans (if_pos ((hcontains i).mpr hi))
    · exact (hslot' i).trans ((if_pos ((hcontains i).mpr hi)).trans (by rw [hslot i]))
    · exact (hmarks i).trans (if_neg ((not_congr (hcontains i)).mpr hi))
    · exact (hslot' i).trans ((if_neg ((not_congr (hcontains i)).mpr hi)).trans (hslot i))
  · subst hretry
    refine ⟨_, hend false, ?_⟩
    have hframe := due.endOp.scatterMarks_frame taken
    have harray := due.endOp.array_scatterMarks taken
    have hmarks := due.endOp.scatterMarks_nvSlot taken
    have huntaken := fun i => due.endOp.nvSlot_scatterMarks_untaken (taken := taken) (i := i)
    generalize due.endOp.scatterMarks taken = d at hframe harray hmarks huntaken
    refine ⟨congrArg (fun u : State => { u with engine := { u.engine with retireRetry := !due.retireOutstanding } }) hframe,
      hjoined, harray, fun i _ => ?_, fun i hi => huntaken i hi⟩
    exact (hmarks i).imp_right fun h => h.2
  · subst hretry
    refine ⟨_, hend false, ?_⟩
    obtain ⟨hframe, harray, hgeometry, hnv', hslot'⟩ := due.endOp.scatterMarks_dropMarks taken
    have hmarks := due.endOp.scatterMarks_nvSlot taken
    have huntaken := fun i => due.endOp.nvSlot_scatterMarks_untaken (taken := taken) (i := i)
    simp only [← hnv'] at hmarks huntaken
    generalize (due.endOp.scatterMarks taken).dropMarks taken = d at hframe harray hgeometry hslot' hmarks huntaken
    refine ⟨congrArg (fun u : State => (u.faultRetireMarks true).flagSite .nvFailed) hframe, hgeometry,
      harray, fun i hi => ⟨?_, ?_⟩, fun i hi => ⟨huntaken i hi, ?_⟩⟩
    · exact (hmarks i).imp_right fun h => h.2
    · exact (hslot' i).trans ((if_pos ((hcontains i).mpr hi)).trans (by rw [hslot i]))
    · exact (hslot' i).trans ((if_neg ((not_congr (hcontains i)).mpr hi)).trans (hslot i))

/-! ### The completion of an erase -/

/-- The slots and their records when an erase ends (R12, R142). -/
def State.eraseEnded (op : SlotOp) (failed : List SlotIx) (s : State) : State :=
  (s.mapSlots fun i x =>
    if s.beingErased op i then (if failed.contains i then Slot.cleared .damaged else Slot.empty) else x).mapNvSlots fun i x =>
      if s.beingErased op i && !failed.contains i then NvSlot.empty else x

/-- The lowest target that an erase failed on (R158). -/
def State.lowestFailed (op : SlotOp) (failed : List SlotIx) (s : State) : Option SlotIx :=
  allSlots.find? fun i => s.beingErased op i && failed.contains i

/-- The part when an erase has ended, before the engine goes on. -/
def State.eraseOutcome (op : SlotOp) (failed : List SlotIx) (s : State) : State :=
  ((s.eraseEnded op failed).outcome .erase (eraseTarget op (s.lowestFailed op failed))
    (if (s.lowestFailed op failed).isSome then .eraseFail else .eraseOk) (s.lowestFailed op failed).isNone).endOp

theorem exec_eraseComplete {s : State} {op : SlotOp} {left : Nat} (hop : op.isProgram = false)
    (ha : s.engine.active = some { op := .slotOp op, remaining := left }) (failed : List SlotIx) :
    exec (.eraseComplete failed) s = .next ((s.wait (s.engine.restLeft + left)).eraseOutcome op failed).proceed := by
  change execEraseComplete failed s = _
  unfold execEraseComplete
  rw [ha, State.untilComplete_active ha]
  cases op with
  | program i => cases hop
  | eraseSlot i => rfl
  | eraseBank k => rfl

section
variable (s : State) (op : SlotOp) (failed : List SlotIx)

theorem State.eraseEnded_frame : s.eraseEnded op failed =
    { s with store := (s.eraseEnded op failed).store, array := (s.eraseEnded op failed).array,
             site := (s.eraseEnded op failed).site } := by
  unfold State.eraseEnded State.mapNvSlots State.mapSlots
  rfl

theorem State.site_eraseEnded : (s.eraseEnded op failed).site = s.site := by
  unfold State.eraseEnded
  rw [State.mapNvSlots_site, State.mapSlots_site]

theorem State.geometry_eraseEnded : (s.eraseEnded op failed).store.geometry = s.store.geometry := by
  unfold State.eraseEnded State.mapNvSlots State.mapSlots
  rfl

theorem State.array_eraseEnded :
    (s.eraseEnded op failed).array = { s.array with slots := (s.eraseEnded op failed).array.slots } := by
  unfold State.eraseEnded State.mapNvSlots State.mapSlots
  rfl

theorem State.slot_eraseEnded (i : SlotIx) : (s.eraseEnded op failed).slot i =
    if s.beingErased op i then (if failed.contains i then Slot.cleared .damaged else Slot.empty) else s.slot i := by
  unfold State.eraseEnded
  rw [State.slot_mapNvSlots, State.slot_mapSlots]

theorem State.nvSlot_eraseEnded (i : SlotIx) : (s.eraseEnded op failed).nvSlot i =
    if s.beingErased op i && !failed.contains i then NvSlot.empty else s.nvSlot i := by
  unfold State.eraseEnded
  rw [State.nvSlot_mapNvSlots, State.nvSlot_mapSlots]

end

/-- Settles O43: slot by slot, and the outcome by the lowest failed target. -/
theorem erasesComplete : Obligations.ErasesComplete := by
  unfold Obligations.ErasesComplete
  intro s op left failed ha hop due erasing lost
  have hw : s.Waited due := s.waited (s.engine.restLeft + left)
  have hexec : exec (.eraseComplete failed) s = .next (due.eraseOutcome op failed).proceed := exec_eraseComplete hop ha failed
  have hslot : ∀ i, due.slot i = s.slot i := State.slot_of_store hw.store
  have hnv : ∀ i, due.nvSlot i = s.nvSlot i := State.nvSlot_of_array hw.array
  have herasing : ∀ i, erasing i ↔ due.beingErased op i = true := fun i => by
    simp only [erasing, State.beingErased, hslot, Bool.and_eq_true, beq_iff_eq]
  have hlost : ∀ i, lost i ↔ (due.beingErased op i && failed.contains i) = true := fun i => by
    simp only [lost, herasing, Bool.and_eq_true, List.contains_iff_mem]
  clear_value due
  have hframe := due.eraseEnded_frame op failed
  have hgeometry := due.geometry_eraseEnded op failed
  have hsite := (due.site_eraseEnded op failed).trans hw.site
  have harray := due.array_eraseEnded op failed
  have hslot' := due.slot_eraseEnded op failed
  have hnv' := due.nvSlot_eraseEnded op failed
  unfold State.eraseOutcome at hexec
  generalize due.eraseEnded op failed = e at hexec hframe hgeometry hsite harray hslot' hnv'
  refine ⟨_, hexec, ?_, ?_, ?_, fun i hi => ⟨?_, ?_⟩, fun i hi hgood => ⟨?_, ?_⟩, fun i hi => ⟨?_, ?_⟩, fun hnone => ?_,
    fun i hi hleast => ?_⟩
  · exact congrArg (fun u : State => (u.outcome .erase (eraseTarget op (due.lowestFailed op failed))
      (if (due.lowestFailed op failed).isSome then .eraseFail else .eraseOk) (due.lowestFailed op failed).isNone).endOp) hframe
  · exact hgeometry.trans (congrArg KeyStore.geometry hw.store)
  · rw [← hw.array]
    exact harray
  · obtain ⟨herase, hin⟩ := Bool.and_eq_true_iff.mp ((hlost i).mp hi)
    exact (hslot' i).trans ((if_pos herase).trans (if_pos hin))
  · obtain ⟨-, hin⟩ := Bool.and_eq_true_iff.mp ((hlost i).mp hi)
    exact (hnv' i).trans ((if_neg (by rw [hin]; simp)).trans (hnv i))
  · have hout : failed.contains i = false := by simpa using hgood
    exact (hslot' i).trans ((if_pos ((herasing i).mp hi)).trans (if_neg (by rw [hout]; exact Bool.false_ne_true)))
  · have hout : failed.contains i = false := by simpa using hgood
    exact (hnv' i).trans (if_pos (by rw [(herasing i).mp hi, hout]; rfl))
  · exact (hslot' i).trans ((if_neg ((not_congr (herasing i)).mp hi)).trans (hslot i))
  · exact (hnv' i).trans ((if_neg fun h => hi ((herasing i).mpr (Bool.and_eq_true_iff.mp h).1)).trans (hnv i))
  · have hlowest : due.lowestFailed op failed = none := List.find?_eq_none.mpr fun i _ h => hnone i ((hlost i).mpr h)
    rw [hlowest]
    refine ⟨?_, fun i hi => ?_, fun k i hk hi => ?_⟩
    · rw [← hsite]
      rfl
    · subst hi
      rfl
    · subst hk
      have hfirst : bankFirst k = i := Fin.ext (by simp only [bankFirst, Fin.val_ofNat, hi]; omega)
      rw [← hfirst]
      rfl
  · have hlowest : due.lowestFailed op failed = some i := by
      refine (find?_eq_some_iff_least (turn := Fin.val) (List.pairwise_lt_finRange 64) List.mem_finRange _ i).mpr
        ⟨(hlost i).mp hi, fun q hq => ?_⟩
      exact Nat.not_lt.mp fun hlt => hleast q hlt ((hlost q).mpr hq)
    have htarget : eraseTarget op (some i) = .slot i := by
      cases op with
      | program j => cases hop
      | eraseBank k => rfl
      | eraseSlot j =>
        obtain ⟨⟨hj, -⟩, -⟩ := hi
        exact congrArg Target.slot (beq_iff_eq.mp hj).symm
    rw [hlowest, htarget]
    refine ⟨?_, rfl⟩
    rw [← hsite]
    rfl

/-! ### The completion of a program -/

/-- The end of a program of slot `i`, which leaves the slot and its record as given (R9). -/
def State.programEnds (i : SlotIx) (x : Slot) (nv : NvSlot) (code : Code) (flag : SiteFlag) (s : State) : State :=
  { s with store := { s.store with slots := s.store.slots.set i x }
           array := { s.array with slots := s.array.slots.set i nv }
           engine := { s.engine with active := none
                                     lastOutcome := some { kind := .program, target := .slot i, code := code } }
           site := { s.site with flags := s.site.flags ||| flag.bit } }

section
variable (s : State) (i : SlotIx)

theorem State.programFailed_ends : (s.programFailed i).endOp =
    s.programEnds i { state := .damaged, fields := none, key := 0, markPending := false } (s.nvSlot i) .programFail .nvFailed := by
  have hsame : s.array.slots.set i (s.nvSlot i) = s.array.slots := Vector.set_getElem_self ..
  unfold State.programEnds
  rw [hsame]
  rfl

theorem State.programLoaded_ends : (s.programLoaded i).endOp =
    s.programEnds i { s.slot i with state := .loaded }
      { marker := .programEnded, fields := (s.slot i).fields, key := (s.slot i).key, checkGood := true } .programOk .nvDone := rfl

theorem State.retireSlots_endOp (p : SlotIx → Bool) (target : Target) (code : Code) (good : Bool) :
    ((s.retireSlots p).outcome .program target code good).endOp = ((s.outcome .program target code good).endOp).retireSlots p := by
  unfold State.retireSlots State.purge State.mapSlots State.mapLanes
  rfl

theorem State.programStale_ends : (s.programStale i).endOp =
    (s.programEnds i (s.slot i)
      { marker := .programEnded, fields := (s.slot i).fields, key := (s.slot i).key, checkGood := true } .loadedStale
      .nvDone).retireSlots (· == i) := by
  have hsame : s.store.slots.set i (s.slot i) = s.store.slots := Vector.set_getElem_self ..
  have hends : s.programEnds i (s.slot i)
      { marker := .programEnded, fields := (s.slot i).fields, key := (s.slot i).key, checkGood := true } .loadedStale .nvDone =
      ((s.endProgram i).outcome .program (.slot i) .loadedStale true).endOp := by
    unfold State.programEnds
    rw [hsame]
    rfl
  rw [hends]
  exact State.retireSlots_endOp ..

theorem State.wait_slotPosition (n : Nat) : (s.wait n).slotPosition i = s.slotPosition i := s.elapse_slotPosition _ i

theorem State.wait_inWindow (n : Nat) : (s.wait n).inWindow i = s.inWindow i := by
  simp only [State.inWindow, Ring.inWindow, State.wait_slotPosition, State.wait_ring_live, State.wait_ring_back,
    State.wait_ring_ahead]

theorem State.wait_standsFor (n : Nat) :
    (s.wait n).ring.standsFor (s.wait n).store.geometry i = s.ring.standsFor s.store.geometry i := by
  have hposition : (s.wait n).ring.slotPosition (s.wait n).store.geometry i = s.ring.slotPosition s.store.geometry i :=
    s.wait_slotPosition i n
  unfold Ring.standsFor Ring.genAt
  rw [hposition, State.wait_ring_c]

theorem State.wait_stands (n : Nat) : ((s.wait n).ring.live && (s.wait n).aligned i) = true ↔
    s.ring.live = true ∧ (s.slot i).generation = some (s.ring.standsFor s.store.geometry i) := by
  rw [State.aligned, State.wait_standsFor, State.slot_wait, State.wait_ring_live, Bool.and_eq_true, beq_iff_eq]

theorem exec_programComplete {left : Nat} (ha : s.engine.active = some { op := .slotOp (.program i), remaining := left })
    (v : Bool) : exec (.programComplete v) s = .next ((s.wait (s.engine.restLeft + left)).finishProgram i v) := by
  change execProgramComplete v s = _
  unfold execProgramComplete
  rw [ha, State.untilComplete_active ha]

end

/-- Settles O44: the four ends of a program, and the advance that a pending rotation takes. -/
theorem programsComplete : Obligations.ProgramsComplete := by
  unfold Obligations.ProgramsComplete
  intro s i left ha due ends written loaded told stands due'
  have hw : s.Waited due := s.waited (s.engine.restLeft + left)
  have hexec := fun v => exec_programComplete s i ha v
  have hslot : due.slot i = s.slot i := State.slot_wait ..
  have hring : due.inRing i = s.inRing i := State.inRing_wait ..
  have hstands : (due.ring.live && due.aligned i) = true ↔ stands := s.wait_stands i _
  have hwindow : due.inWindow i = s.inWindow i := s.wait_inWindow i _
  have hpending : (due.ring.rotationPending && due.slotPosition i == 1) = true ↔ due' := by
    rw [State.wait_ring_rotationPending, State.wait_slotPosition, Bool.and_eq_true, beq_iff_eq]
  have hends : ∀ x nv code flag, due.programEnds i x nv code flag = ends x nv code flag := fun x nv code flag => by
    simp only [State.programEnds, ends, hw.array, hw.store, hw.site]
  have hloaded : (due.programLoaded i).endOp = loaded := by
    rw [State.programLoaded_ends, hslot, hends]
  have htold : (if due.inWindow i then (due.programLoaded i).endOp.flagLanes .ringChanged else (due.programLoaded i).endOp) = told := by
    rw [hwindow, hloaded]
  have hverified : exec (.programComplete true) s = .next (
      if due.inRing i = false then (due.programLoaded i).endOp.proceed
      else if due.ring.live && due.aligned i then
        (if due.ring.rotationPending && due.slotPosition i == 1 then told.advance else told).proceed
      else (due.programStale i).endOp.proceed) := by
    rw [← htold]
    exact hexec true
  rw [hring] at hverified
  refine ⟨?_, fun hout => ?_, fun hin hs hd => ?_, fun hin hs hd => ?_, fun hin hs => ?_⟩
  · have hfailed : exec (.programComplete false) s = .next (due.programFailed i).endOp.proceed := hexec false
    rw [State.programFailed_ends, hends] at hfailed
    rw [hfailed, State.nvSlot_of_array hw.array]
  · rw [hverified, if_pos hout, hloaded]
  · rw [hverified, if_neg (by rw [hin]; exact nofun), if_pos (hstands.mpr hs), if_neg ((not_congr hpending).mpr hd)]
  · rw [hverified, if_neg (by rw [hin]; exact nofun), if_pos (hstands.mpr hs), if_pos (hpending.mpr hd)]
  · rw [hverified, if_neg (by rw [hin]; exact nofun), if_neg ((not_congr hstands).mpr hs), State.programStale_ends, hslot, hends]

end Sys2Proof.Machine

/-! PROOFS. The completions of settings writes and of the site's record writes, and the commands that begin them (R38 to R44,
R121, R123, R149, R165 to R170, R178). -/

namespace Sys2Proof.Machine

/-! ### The cipher engine and the lanes after a SET_LANES -/

theorem Cipher.detach_if (c : Cipher) (l : LaneIx) (p : Bool) : (if p then c.detach l else c) =
    { c with work := c.work.map fun w => { w with detached := w.detached || (p && decide (w.requester = .lane l)) } } := by
  obtain ⟨work, last⟩ := c
  cases p with
  | false => cases work <;> simp
  | true =>
    cases work with
    | none => rfl
    | some w =>
      by_cases h : w.requester = .lane l <;> simp [Cipher.detach, h]

/-- The job in the cipher engine after a SET_LANES (R86, R87). -/
theorem Cipher.detachShut_eq (before after : BitVec 4) (c : Cipher) : c.detachShut before after =
    { c with work := c.work.map fun w => { w with detached := w.detached || match w.requester with
      | .lane l => before.getLsbD l.val && !after.getLsbD l.val
      | .site => false } } := by
  have hlanes : allLanes = [0, 1, 2, 3] := rfl
  unfold Cipher.detachShut
  rw [hlanes]
  simp only [List.foldl_cons, List.foldl_nil, Cipher.detach_if]
  rcases c with ⟨_ | ⟨requester, detached, left, task⟩, last⟩
  · rfl
  · cases requester with
    | site => simp
    | lane l =>
      match l with
      | 0 | 1 | 2 | 3 => simp

theorem Lane.shut_eq (x : Lane) : x.shut =
    { x with port := { x.port with state := .disabled }, flags := 0, enables := 0, jobs := [], results := [],
             counterWait := false, sessions := Vector.ofFn fun e => { x.sessions[e] with session := none } } := by
  unfold Lane.shut
  rw [Lane.discard_eq]

section
variable (s : State) (r : Settings)

theorem applyLanes_frame : applyLanes r s =
    { s with laneEnable := r.laneEnable, lanes := (applyLanes r s).lanes, cipher := (applyLanes r s).cipher } := by
  unfold applyLanes State.mapLanesAt
  rfl

theorem lane_applyLanes (l : LaneIx) : (applyLanes r s).lane l =
    (s.lane l).switch (s.laneEnable.getLsbD l.val) (r.laneEnable.getLsbD l.val) :=
  State.lane_mapLanesAt ..

theorem cipher_applyLanes : (applyLanes r s).cipher = s.cipher.detachShut s.laneEnable r.laneEnable := rfl

end

/-! ### The alignment check under an outcome -/

/-- The alignment check reads and writes nothing of the write engine or of the site port (R28). -/
theorem State.alignmentCheck_over (s : State) (e : WriteEngine) (x : Site) :
    ({ s with engine := e, site := x } : State).alignmentCheck = { s.alignmentCheck with engine := e, site := x } := by
  unfold State.alignmentCheck
  cases s.ring.live with
  | false => rfl
  | true =>
    simp only [if_true]
    unfold State.retireSlots State.purge State.mapSlots State.mapLanes
    rfl

/-- The completion of a SET_WINDOW that verified (R40, R62). -/
theorem applyWindow_outcome (s : State) (r : Settings) (target : Target) :
    ((applyWindow r s).outcome .settings target .settingsOk true).endOp =
      ({ ((s.outcome .settings target .settingsOk true).endOp.bounded r.back r.ahead).alignmentCheck with
         cache := (((s.outcome .settings target .settingsOk true).endOp.bounded r.back r.ahead).alignmentCheck).cache.filter fun e =>
           !s.ring.live || (s.ring.position e.generation |> fun p => decide (-(r.back : Int) ≤ p) && decide (p ≤ (r.ahead : Int)))
       } : State).flagLanes .ringChanged := by
  have hsplit : (s.outcome .settings target .settingsOk true).endOp.bounded r.back r.ahead =
      { s.bounded r.back r.ahead with
        engine := (s.outcome .settings target .settingsOk true).endOp.engine
        site := (s.outcome .settings target .settingsOk true).site } := rfl
  have hover := (s.bounded r.back r.ahead).alignmentCheck_over (s.outcome .settings target .settingsOk true).endOp.engine
    (s.outcome .settings target .settingsOk true).site
  rw [← hsplit] at hover
  have hframe := (s.bounded r.back r.ahead).alignmentCheck_frame
  have happly : applyWindow r s = ((s.bounded r.back r.ahead).alignmentCheck).trimCache.flagLanes .ringChanged := rfl
  rw [hover, happly]
  generalize (s.bounded r.back r.ahead).alignmentCheck = A at hframe
  generalize A.store = st at hframe
  generalize A.cache = ca at hframe
  generalize A.lanes = la at hframe
  subst hframe
  rfl

/-- Settles O53: each command by the block that takes its value. -/
theorem settingsComplete : Obligations.SettingsComplete := by
  unfold Obligations.SettingsComplete
  intro s left command r ha
  have hw := s.waited (s.engine.restLeft + left)
  have hc : (s.wait (s.engine.restLeft + left)).ring.c = s.ring.c := State.wait_ring_c ..
  have hlive : (s.wait (s.engine.restLeft + left)).ring.live = s.ring.live := State.wait_ring_live ..
  dsimp only
  refine ⟨?rotation, ?window, ?protectHead, ?protectTail, ?lockHead, ?lockTail, ?freeze, ?site, ?lanes⟩
  case rotation =>
    rintro rfl
    rw [exec_setRotationComplete ha true]
    generalize s.wait (s.engine.restLeft + left) = due at hw
    rw [← hw.array, ← hw.faults, ← hw.site]
    rfl
  case window =>
    rintro rfl
    rw [exec_setWindowComplete ha true]
    generalize s.wait (s.engine.restLeft + left) = due at hw hc hlive
    rw [← hw.array, ← hw.faults, ← hw.site]
    refine ⟨fun e => !due.ring.live || (decide (-(r.back : Int) ≤ due.ring.position e.generation) &&
      decide (due.ring.position e.generation ≤ (r.ahead : Int))), fun e => ?_, ?_⟩
    · have hposition : due.ring.position e.generation = s.ring.position e.generation := by simp only [Ring.position, hc]
      dsimp only
      rw [hposition, hlive]
      cases s.ring.live <;> simp
    · exact congrArg (fun t : State => Host.Outcome.next t.proceed)
        (applyWindow_outcome ((due.putSettings (.good r)).faultSettings false) r (.command .window))
  case protectHead =>
    rintro rfl
    rw [exec_setProtectNvComplete ha true]
    generalize s.wait (s.engine.restLeft + left) = due at hw
    rw [← hw.array, ← hw.faults, ← hw.site, ← hw.protection]
    rfl
  case protectTail =>
    rintro rfl
    rw [exec_setProtectNvComplete ha true]
    generalize s.wait (s.engine.restLeft + left) = due at hw
    rw [← hw.array, ← hw.faults, ← hw.site, ← hw.protection]
    rfl
  case lockHead =>
    rintro rfl
    rw [exec_lockAreaComplete ha true true]
    generalize s.wait (s.engine.restLeft + left) = due at hw
    rw [← hw.array, ← hw.faults, ← hw.site, ← hw.protection]
    rfl
  case lockTail =>
    rintro rfl
    rw [exec_lockAreaComplete ha true true]
    generalize s.wait (s.engine.restLeft + left) = due at hw
    rw [← hw.array, ← hw.faults, ← hw.site, ← hw.protection]
    rfl
  case freeze =>
    rintro rfl
    rw [exec_setFreezeComplete ha true]
    generalize s.wait (s.engine.restLeft + left) = due at hw
    rw [← hw.array, ← hw.faults, ← hw.site, ← hw.protection]
    rfl
  case site =>
    rintro rfl
    rw [exec_setSiteComplete ha true]
    generalize s.wait (s.engine.restLeft + left) = due at hw
    rw [← hw.array, ← hw.faults, ← hw.site]
    rfl
  case lanes =>
    rintro rfl
    have hexec := exec_setLanesComplete ha true
    have hgranted : (s.wait (s.engine.restLeft + left)).cipher.lastGranted = s.cipher.lastGranted := State.wait_lastGranted ..
    generalize s.wait (s.engine.restLeft + left) = due at hw hexec hgranted
    have hlane : ∀ l, due.lane l = s.lane l := fun l => congrArg (fun v : Vector Lane 4 => v[l]) hw.lanes
    let written := (due.putSettings (.good r)).faultSettings false
    have hframe := applyLanes_frame written r
    have hlane' : ∀ l, (applyLanes r written).lane l =
        (s.lane l).switch (s.laneEnable.getLsbD l.val) (r.laneEnable.getLsbD l.val) := fun l => by
      rw [← hlane, ← hw.laneEnable]
      exact lane_applyLanes written r l
    have hcipher : (applyLanes r written).cipher = due.cipher.detachShut s.laneEnable r.laneEnable := by
      rw [← hw.laneEnable]
      rfl
    have hdone : exec (.setLanesComplete true) s =
        .next (((applyLanes r written).outcome .settings (.command .lanes) .settingsOk true).endOp).proceed := hexec
    generalize applyLanes r written = u at hframe hlane' hcipher hdone
    rw [← hw.array, ← hw.faults, ← hw.site]
    refine ⟨_, hdone, ?_, fun l hsame => ?_, fun l hbefore hafter => ?_, fun l hbefore hafter => ?_, ?_, ?_⟩
    · exact congrArg (fun t : State => (t.outcome .settings (.command .lanes) .settingsOk true).endOp) hframe
    · refine (hlane' l).trans ?_
      rw [hsame]
      cases r.laneEnable.getLsbD l.val <;> rfl
    · refine (hlane' l).trans ?_
      rw [hbefore, hafter]
      exact Lane.shut_eq _
    · refine (hlane' l).trans ?_
      rw [hbefore, hafter]
      rfl
    · rw [Cipher.detachShut_eq] at hcipher
      exact (congrArg Cipher.lastGranted hcipher).trans hgranted
    · rw [Cipher.detachShut_eq] at hcipher
      exact congrArg Cipher.work hcipher

/-! ### SET_GEOMETRY -/

section
variable (s : State) (c : Gen) (r : Settings)

theorem applyGeometry_frame : applyGeometry c r s =
    { s with store := { s.store with geometry := r.geometry }
             ring := { s.ring with live := true, c := c, h := 0, back := min s.ring.back (r.geometry.ring - 2)
                                   remaining := s.ring.period, secondRun := 0, rotationPending := false }
             engine := { s.engine with genRequest := none }, cache := [], lanes := (applyGeometry c r s).lanes } := by
  unfold applyGeometry State.flagLanes State.mapLanes
  rfl

theorem lane_applyGeometry (l : LaneIx) :
    (applyGeometry c r s).lane l = ((s.lane l).loseSessions fun _ => true).flag .ringChanged := by
  unfold applyGeometry
  dsimp only
  rw [State.lane_flagLanes, State.lane_mapLanes]
  rfl

end

theorem Lane.sessions_loseAll (x : Lane) :
    (x.loseSessions fun _ => true).sessions = Vector.ofFn fun e => { x.sessions[e] with session := none } :=
  congrArg Lane.sessions x.discard_eq

/-- Settles O54: the ring that a SET_GEOMETRY rebuilds, and the sessions that it ends. -/
theorem geometryCompletes : Obligations.GeometryCompletes := by
  unfold Obligations.GeometryCompletes
  intro s left c r ha due
  have hw : s.Waited due := s.waited (s.engine.restLeft + left)
  have hexec := exec_setGeometryComplete ha true
  have hahead : due.ring.ahead = s.ring.ahead := State.wait_ring_ahead ..
  have hback : due.ring.back = s.ring.back := State.wait_ring_back ..
  have hperiod : due.ring.period = s.ring.period := State.wait_ring_period ..
  let written : State := ((((due.putGeneration (.good { live := true, c := c, h := 0 })).faultGeneration false).putSettings
    (.good r)).faultSettings false)
  have hdone : exec (.setGeometryComplete true) s =
      .next (((applyGeometry c r written).outcome .settings (.command (.geometry c)) .settingsOk true).endOp).proceed := hexec
  have hframe := applyGeometry_frame written c r
  have hlane := lane_applyGeometry written c r
  have hlane' : ∀ l, written.lane l = s.lane l := fun l => congrArg (fun v : Vector Lane 4 => v[l]) hw.lanes
  simp only [hlane'] at hlane
  generalize applyGeometry c r written = u at hdone hframe hlane
  clear_value due
  dsimp only
  rw [← hw.array, ← hw.faults, ← hw.site, ← hw.store, ← hahead, ← hback, ← hperiod]
  refine ⟨_, hdone, ?_, fun l => ?_⟩
  · exact congrArg (fun t : State => (t.outcome .settings (.command (.geometry c)) .settingsOk true).endOp) hframe
  · obtain ⟨y, hsome, hnone, hlost⟩ := Lane.loseSessions_over (s.lane l) fun _ => true
    rw [Lane.sessions_loseAll] at hlost
    refine ⟨y, fun ⟨e, he⟩ => ?_, fun hall => hnone fun e ⟨v, hv, _⟩ => ?_, ?_⟩
    · obtain ⟨v, hv⟩ := Option.ne_none_iff_exists'.mp he
      exact hsome ⟨e, v, hv, rfl⟩
    · rw [hall e] at hv
      cases hv
    · refine (hlane l).trans ?_
      rw [hlost]
      exact Lane.flag_over ..

/-! ### SET_CURRENT and SET_COUNTER -/

/-- The completion of a SET_CURRENT that verified (R44). -/
theorem applyCurrent_outcome (s : State) (c : Gen) (h : Nat) (target : Target) :
    ((applyCurrent c h s).outcome .genRecord target .recordOk true).endOp =
      ({ ((s.outcome .genRecord target .recordOk true).endOp.placed c h).alignmentCheck with
         ring := { (((s.outcome .genRecord target .recordOk true).endOp.placed c h).alignmentCheck).ring with
           remaining := s.ring.period, secondRun := 0 } } : State).flagLanes .ringChanged := by
  have hsplit : (s.outcome .genRecord target .recordOk true).endOp.placed c h =
      { s.placed c h with
        engine := (s.outcome .genRecord target .recordOk true).endOp.engine
        site := (s.outcome .genRecord target .recordOk true).site } := rfl
  have hover := (s.placed c h).alignmentCheck_over (s.outcome .genRecord target .recordOk true).endOp.engine
    (s.outcome .genRecord target .recordOk true).site
  rw [← hsplit] at hover
  have hframe := (s.placed c h).alignmentCheck_frame
  have happly : applyCurrent c h s = ({ (s.placed c h).alignmentCheck with
    ring := (s.placed c h).alignmentCheck.ring.reload } : State).flagLanes .ringChanged := rfl
  rw [hover, happly]
  generalize (s.placed c h).alignmentCheck = A at hframe
  generalize A.store = st at hframe
  generalize A.cache = ca at hframe
  generalize A.lanes = la at hframe
  subst hframe
  rfl

/-- The low-water condition is not one of the outcome (R117). -/
theorem State.examineLowWater_outcome (s : State) (target : Target) (code : Code) (good : Bool) :
    (s.examineLowWater.outcome .counterRecord target code good).endOp =
      ((s.outcome .counterRecord target code good).endOp).examineLowWater := by
  have hcounter : ((s.outcome .counterRecord target code good).endOp).counter = s.counter := rfl
  unfold State.examineLowWater
  rw [hcounter]
  split <;> rfl

theorem exec_setCurrentComplete {s : State} {i : SlotIx} {c : Gen} {h left : Nat}
    (ha : s.engine.active = some { op := .setCurrent i c h, remaining := left }) (v : Bool) :
    exec (.setCurrentComplete v) s = if v then
      .next (((applyCurrent c h (((s.wait (s.engine.restLeft + left)).putGeneration
        (.good { live := true, c := c, h := h })).faultGeneration false)).outcome .genRecord (.slot i) .recordOk true).endOp.proceed)
    else .next (((((s.wait (s.engine.restLeft + left)).putGeneration .damaged).faultGeneration true).outcome .genRecord (.slot i)
      .recordFail false).endOp.proceed) := by
  change execSetCurrentComplete v s = _
  unfold execSetCurrentComplete
  rw [ha, State.untilComplete_active ha]

/-- The part before the outcome of a SET_COUNTER that failed (R123). -/
def State.counterKept (s : State) : State :=
  ({ (s.putCounter .damaged).faultCounter true with
     counter := { ((s.putCounter .damaged).faultCounter true).counter with setting := false } } : State).report

theorem exec_setCounterComplete {s : State} {base limit left : Nat}
    (ha : s.engine.active = some { op := .setCounter base limit, remaining := left }) (v : Bool) :
    exec (.setCounterComplete v) s = if v then
      .next (((((applyCounter base limit (((s.wait (s.engine.restLeft + left)).putCounter (.good limit)).faultCounter
        false)).report.outcome .counterRecord .none .recordOk true).endOp).examineLowWater).proceed)
    else .next (((((s.wait (s.engine.restLeft + left)).counterKept).outcome .counterRecord .none .recordFail false).endOp).examineLowWater.proceed) := by
  change execSetCounterComplete v s = _
  unfold execSetCounterComplete
  rw [ha, State.untilComplete_active ha]
  simp only [← State.examineLowWater_outcome]
  rfl

/-- Settles O57: the two completions, and the low-water condition. -/
theorem recordCommandsComplete : Obligations.RecordCommandsComplete := by
  unfold Obligations.RecordCommandsComplete
  refine ⟨fun s i g h left ha => ?current, fun s base limit left ha => ?counter, fun s => ?low⟩
  case current =>
    have hw := s.waited (s.engine.restLeft + left)
    have hperiod : (s.wait (s.engine.restLeft + left)).ring.period = s.ring.period := State.wait_ring_period ..
    rw [exec_setCurrentComplete ha, exec_setCurrentComplete ha]
    dsimp only
    generalize s.wait (s.engine.restLeft + left) = due at hw hperiod
    rw [← hw.array, ← hw.faults, ← hw.site, ← hperiod]
    refine ⟨?_, rfl⟩
    exact congrArg (fun t : State => Host.Outcome.next t.proceed) (applyCurrent_outcome
      ((due.putGeneration (.good { live := true, c := g, h := h })).faultGeneration false) g h (.slot i))
  case counter =>
    have hw := s.waited (s.engine.restLeft + left)
    rw [exec_setCounterComplete ha, exec_setCounterComplete ha]
    dsimp only
    generalize s.wait (s.engine.restLeft + left) = due at hw
    rw [← hw.array, ← hw.faults, ← hw.site, ← hw.counter]
    refine ⟨fun hbase => ?_, fun hbase => ?_, rfl⟩
    · have happly : ∀ t, applyCounter base limit t =
          { t with counter := { t.counter with state := .running, next := base, limit := limit, setting := false } } :=
        fun t => if_neg hbase
      rw [happly]
      rfl
    · have happly : ∀ t, applyCounter base limit t = ({ t with
          counter := { t.counter with state := .exhausted, next := base, limit := limit, setting := false } } : State).flagSite
            .counter := fun t => if_pos hbase
      rw [happly, ← BitVec.or_assoc]
      rfl
  case low =>
    rw [← Counter.lowWater_iff]
    exact ⟨s.examineLowWater_low, s.examineLowWater_high⟩

end Sys2Proof.Machine

/-! PROOFS. The settings commands and the site's record commands: their checks in order, and their acceptance (R38, R39, R41,
R43, R121, R149, R165 to R170, R178). -/

namespace Sys2Proof.Machine

/-! ### The checks that the commands share -/

/-- A site command under the permit and the engine's check, and then its own rule (R149, R158). -/
def guarded (body : State → Reply) (s : State) : Reply :=
  if s.engine.permit = false then refuse .noPermit s
  else
    match s.engineCheck with
    | some c => refuse c s
    | none => body s

/-- The instruction is a site command whose rule is `body` under the permit and the engine's check. -/
def IsGuarded (x : Instr) (body : State → Reply) : Prop :=
  ∀ (s t : State) (code : Code) (values : List Byte), s.Admits .site →
    guarded body (s.disarm .site) = reply code values (t.disarm .site) → exec x s = .next (t.heard .site code values)

section
variable {x : Instr} {body : State → Reply} {s t : State} {code : Code} {values : List Byte}

theorem IsGuarded.noPermit (h : IsGuarded x body) (hp : s.Admits .site) (hpermit : s.engine.permit = false) :
    exec x s = .next (s.heard .site .noPermit []) :=
  h s s .noPermit [] hp (if_pos (c := (s.disarm .site).engine.permit = false) hpermit)

theorem IsGuarded.engine (h : IsGuarded x body) (hp : s.Admits .site) (hpermit : s.engine.permit = true)
    (hcheck : s.engineCheck = some code) : exec x s = .next (s.heard .site code []) := by
  have hpermit' : ¬(s.disarm .site).engine.permit = false := (not_congr Bool.eq_false_iff).mpr (Classical.not_not.mpr hpermit)
  have hcheck' : (s.disarm .site).engineCheck = some code := hcheck
  refine h s s code [] hp ?_
  unfold guarded
  rw [if_neg hpermit', hcheck']
  rfl

theorem IsGuarded.free (h : IsGuarded x body) (hp : s.Admits .site) (hpermit : s.engine.permit = true) (hidle : s.idle = true)
    (hheld : s.engine.held = none) (hbody : body (s.disarm .site) = reply code values (t.disarm .site)) :
    exec x s = .next (t.heard .site code values) := by
  have hpermit' : ¬(s.disarm .site).engine.permit = false := (not_congr Bool.eq_false_iff).mpr (Classical.not_not.mpr hpermit)
  have hcheck : (s.disarm .site).engineCheck = none := State.engineCheck_free (s := s.disarm .site) hidle hheld
  refine h s t code values hp ?_
  unfold guarded
  rw [if_neg hpermit', hcheck]
  exact hbody

/-- The first three checks of every such command, in their order (R149, R158). -/
theorem IsGuarded.refusals (h : IsGuarded x body) (hp : s.Admits .site) :
    (s.engine.permit = false → exec x s = .next (s.heard .site .noPermit [])) ∧
    (s.engine.permit = true → s.idle = false → exec x s = .next (s.heard .site .busy [])) ∧
    (s.engine.permit = true → s.idle = true → s.engine.held ≠ none → exec x s = .next (s.heard .site .suspended [])) :=
  ⟨h.noPermit hp, fun hpermit hidle => h.engine hp hpermit (State.engineCheck_busy hidle),
    fun hpermit hidle hheld => h.engine hp hpermit (State.engineCheck_suspended hidle hheld)⟩

end

/-! ### The settings commands under their plans -/

/-- A settings command after its first checks (R149). -/
def settingsBody (freezes : Bool) (plan : State → SettingsPlan) (s : State) : Reply :=
  if freezes && s.protection.frozen then refuse .frozen s
  else
    match plan s with
    | .error c => refuse c s
    | .ok (command, record, values) => reply .accepted values (s.spendPermit.startOp (.settings command record) Config.settingsTime)

theorem settingsRule_guarded (freezes : Bool) (plan : State → SettingsPlan) :
    settingsRule freezes plan = guarded (settingsBody freezes plan) := by
  funext s
  unfold settingsRule guarded settingsBody
  rfl

section
variable {freezes : Bool} {plan : State → SettingsPlan} {s : State}

theorem settingsBody_frozen (hfrozen : s.protection.frozen = true) : settingsBody true plan s = refuse .frozen s :=
  if_pos (by rw [hfrozen]; rfl)

theorem settingsBody_error {c : Code} (hfree : freezes = false ∨ s.protection.frozen = false) (hplan : plan s = .error c) :
    settingsBody freezes plan s = refuse c s := by
  unfold settingsBody
  rw [if_neg (by rcases hfree with h | h <;> simp [h]), hplan]

theorem settingsBody_ok {command : SettingsCommand} {record : Settings} {values : List Byte}
    (hfree : freezes = false ∨ s.protection.frozen = false) (hplan : plan s = .ok (command, record, values)) :
    settingsBody freezes plan s =
      reply .accepted values (s.spendPermit.startOp (.settings command record) Config.settingsTime) := by
  unfold settingsBody
  rw [if_neg (by rcases hfree with h | h <;> simp [h]), hplan]

end

theorem guarded_settings {α : Type} {x : Instr} {payload : List Byte} {v : α} {rule : α → State → Reply} {freezes : Bool}
    {plan : State → SettingsPlan}
    (hexec : ∀ s, exec x s = .next (s.command .site false payload (some v) rule)) (hlen : payload.length ≤ 64)
    (hrule : rule v = settingsRule freezes plan) : IsGuarded x (settingsBody freezes plan) := by
  intro s t code values hp h
  rw [hexec]
  refine State.next_heard hp hlen ?_
  rw [hrule, settingsRule_guarded]
  exact h

section
variable (a b c d : Byte)

theorem setRotation_guarded : IsGuarded (.setRotation [a, b, c, d]) (settingsBody false (rotationPlan (beNat [a, b, c, d]))) :=
  guarded_settings (v := beNat [a, b, c, d]) (fun _ => rfl) (by simp) rfl

theorem setWindow_guarded : IsGuarded (.setWindow [a, b]) (settingsBody false (windowPlan a b)) :=
  guarded_settings (v := (a, b)) (fun _ => rfl) (by simp) rfl

theorem setGeometry_guarded : IsGuarded (.setGeometry [a, b, c, d]) (settingsBody true (geometryPlan a b (c ++ d))) :=
  guarded_settings (v := (a, b, (c ++ d : BitVec 16))) (fun _ => rfl) (by simp) rfl

theorem setProtectNv_guarded : IsGuarded (.setProtectNv [a, b, 0x01]) (settingsBody true (protectPlan a b)) :=
  guarded_settings (v := (a, b, (0x01 : Byte))) (fun _ => rfl) (by simp) rfl

theorem lockArea_guarded : IsGuarded (.lockArea [a]) (settingsBody true (lockPlan a)) :=
  guarded_settings (v := a) (fun _ => rfl) (by simp) rfl

theorem setFreeze_guarded : IsGuarded (.setFreeze [a]) (settingsBody true (freezePlan a)) :=
  guarded_settings (v := a) (fun _ => rfl) (by simp) rfl

theorem setSite_guarded : IsGuarded (.setSite [a, b]) (settingsBody true (sitePlan (a ++ b))) :=
  guarded_settings (v := (a ++ b : BitVec 16)) (fun _ => rfl) (by simp) rfl

theorem setLanes_guarded : IsGuarded (.setLanes [a]) (settingsBody true (lanesPlan a)) :=
  guarded_settings (v := a) (fun _ => rfl) (by simp) rfl

end

section
variable {x : Instr} {freezes : Bool} {plan : State → SettingsPlan} {s : State}

theorem IsGuarded.planned {command : SettingsCommand} {record : Settings} {values : List Byte}
    (h : IsGuarded x (settingsBody freezes plan)) (hp : s.Admits .site) (hpermit : s.engine.permit = true) (hidle : s.idle = true)
    (hheld : s.engine.held = none) (hfree : freezes = false ∨ s.protection.frozen = false)
    (hplan : plan (s.disarm .site) = .ok (command, record, values)) :
    exec x s = .next (({ s with engine := { s.engine with
      permit := false, active := some { op := .settings command record, remaining := 6000 } } } : State).heard .site .accepted
        values) :=
  h.free (t := { s with engine := { s.engine with
    permit := false, active := some { op := .settings command record, remaining := 6000 } } }) hp hpermit hidle hheld
    (settingsBody_ok (s := s.disarm .site) hfree hplan)

theorem IsGuarded.unplanned {c : Code} (h : IsGuarded x (settingsBody freezes plan)) (hp : s.Admits .site)
    (hpermit : s.engine.permit = true) (hidle : s.idle = true) (hheld : s.engine.held = none)
    (hfree : freezes = false ∨ s.protection.frozen = false) (hplan : plan (s.disarm .site) = .error c) :
    exec x s = .next (s.heard .site c []) :=
  h.free (t := s) hp hpermit hidle hheld (settingsBody_error (s := s.disarm .site) hfree hplan)

theorem IsGuarded.frozen (h : IsGuarded x (settingsBody true plan)) (hp : s.Admits .site)
    (hpermit : s.engine.permit = true) (hidle : s.idle = true) (hheld : s.engine.held = none)
    (hfrozen : s.protection.frozen = true) : exec x s = .next (s.heard .site .frozen []) :=
  h.free (t := s) hp hpermit hidle hheld (settingsBody_frozen (s := s.disarm .site) hfrozen)

end

/-! ### The plans -/

/-- A raised B would make a LOADED future slot a past one (R39). -/
theorem State.windowConflict_iff (s : State) (b : Nat) : s.windowConflict b = true ↔ s.ring.live = true ∧ s.ring.back < b ∧
    ∃ i : SlotIx, s.inRing i = true ∧ (s.slot i).state = .loaded ∧
      (s.store.geometry.ring : Int) - (b : Int) ≤
        ((i.val : Int) - (s.store.geometry.head : Int) - (s.ring.h : Int)) % (s.store.geometry.ring : Int) ∧
      ((i.val : Int) - (s.store.geometry.head : Int) - (s.ring.h : Int)) % (s.store.geometry.ring : Int) ≤
        (s.store.geometry.ring : Int) - 1 - (s.ring.back : Int) := by
  simp only [State.windowConflict, Bool.and_eq_true, decide_eq_true_iff, any_allSlots, beq_iff_eq, and_assoc]
  rfl

theorem append_toNat (a b : Byte) : (a ++ b : BitVec 16).toNat = a.toNat * 256 + b.toNat := by
  rw [BitVec.toNat_append, ← Nat.shiftLeft_add_eq_or_of_lt b.isLt, Nat.shiftLeft_eq]

theorem beBytes_append (a b : Byte) : beBytes 2 (a ++ b : BitVec 16).toNat = [a, b] := by
  rw [beBytes_two, append_toNat]
  have ha := a.isLt
  have hb := b.isLt
  refine List.cons_eq_cons.mpr ⟨?_, List.cons_eq_cons.mpr ⟨?_, rfl⟩⟩ <;>
  · refine BitVec.eq_of_toNat_eq ?_
    rw [BitVec.toNat_ofNat]
    omega

theorem badGeometry_iff (h n : Nat) (c : BitVec 16) :
    badGeometry h n c = false ↔ ({ head := h, ring := n } : Geometry).Ok ∧ c.toNat ≤ 4095 := by
  simp only [badGeometry, Bool.or_eq_false_iff, decide_eq_false_iff_not, Geometry.Ok, Geometry.tail]
  omega

/-- Settles O50: each plan, and the clamps it makes. -/
theorem settingsAreAccepted : Obligations.SettingsAreAccepted := by
  unfold Obligations.SettingsAreAccepted
  intro s hp hpermit hidle hheld accepted conflict
  have haccept : ∀ {x freezes plan command record values}, IsGuarded x (settingsBody freezes plan) →
      freezes = false ∨ s.protection.frozen = false → plan (s.disarm .site) = .ok (command, record, values) →
      accepted x command record values := fun h hfree hplan => h.planned hp hpermit hidle hheld hfree hplan
  refine ⟨fun a b c d => ?rotation, fun back ahead => ?window, fun hfrozen => ⟨fun head ring c1 c0 => ?geometry, fun value => ?flags,
    fun hlock => ?lockHead, fun hlock => ?lockTail, fun a b => ?site, fun mask hmask => ?lanes⟩⟩
  case rotation => exact haccept (setRotation_guarded a b c d) (.inl rfl) rfl
  case window =>
    intro b a hconflict
    refine haccept (setWindow_guarded back ahead) (.inl rfl) (if_neg fun h => hconflict ?_)
    exact (s.windowConflict_iff b).mp h
  case geometry =>
    intro geo back' c hok hc hblank
    have hgood : badGeometry geo.head geo.ring c = false := (badGeometry_iff ..).mpr ⟨hok, hc⟩
    have hring : ¬(allSlots.any fun i => (s.inRing i || geo.area i == .ring) && (s.slot i).state != .blank) = true := by
      rw [any_allSlots]
      rintro ⟨i, hi⟩
      simp only [Bool.and_eq_true, Bool.or_eq_true, beq_iff_eq, bne_iff_ne] at hi
      obtain ⟨hout, hsame⟩ := hblank i hi.2
      rcases hi.1 with h | h
      · exact Bool.false_ne_true (hout.symm.trans h)
      · rw [State.inRing, ← hsame, h] at hout
        exact absurd hout (by decide)
    have harea : ¬(allSlots.any fun i => s.areaOf i != geo.area i && (s.slot i).state != .blank) = true := by
      rw [any_allSlots]
      rintro ⟨i, hi⟩
      simp only [Bool.and_eq_true, bne_iff_ne] at hi
      exact hi.1 (hblank i hi.2).2.symm
    exact haccept (setGeometry_guarded head ring c1 c0) (.inr hfrozen)
      ((if_neg (Bool.eq_false_iff.mp hgood)).trans ((if_neg hring).trans (if_neg harea)))
  case flags =>
    refine ⟨haccept (setProtectNv_guarded 0x01 value) (.inr hfrozen) rfl, haccept (setProtectNv_guarded 0x02 value) (.inr hfrozen) rfl,
      haccept (setFreeze_guarded value) (.inr hfrozen) rfl⟩
  case lockHead => exact haccept (lockArea_guarded 0x01) (.inr hfrozen) (if_neg (Bool.eq_false_iff.mp hlock))
  case lockTail => exact haccept (lockArea_guarded 0x02) (.inr hfrozen) (if_neg (Bool.eq_false_iff.mp hlock))
  case site =>
    refine haccept (setSite_guarded a b) (.inr hfrozen) ?_
    unfold sitePlan
    rw [beBytes_append]
    rfl
  case lanes => exact haccept (setLanes_guarded mask) (.inr hfrozen) (if_neg (Nat.not_le.mpr hmask))

/-! ### The record commands -/

/-- SET_CURRENT after its first checks (R43). -/
def setCurrentBody (w : BitVec 16) (s : State) : Reply :=
  if s.ring.live then refuse .ringLive s
  else if 4096 ≤ w.toNat then refuse .genMissing s
  else
    match s.holderOf (w.setWidth 12) with
    | none => refuse .genMissing s
    | some i => reply .accepted [numByte i.val, numByte (i.val - s.store.geometry.head)]
        (s.spendPermit.startOp (.setCurrent i (w.setWidth 12) (i.val - s.store.geometry.head)) Config.recordTime)

/-- SET_COUNTER after its first checks (R121). -/
def setCounterBody (base : Nat) (s : State) : Reply :=
  if s.counter.state ≠ .unset ∧ base < s.counter.next then refuse .counterBelow s
  else
    reply .accepted (beBytes 4 base ++ beBytes 4 (min (base + Config.reserveStep) Config.counterTop))
      (({ s.spendPermit with counter := { s.counter with setting := true } } : State).startOp
        (.setCounter base (min (base + Config.reserveStep) Config.counterTop)) Config.recordTime)

theorem setCurrent_guarded (a b : Byte) : IsGuarded (.setCurrent [a, b]) (setCurrentBody (a ++ b)) := by
  intro s t code values hp h
  change execSetCurrent [a, b] s = _
  exact State.next_heard (a := (a ++ b : BitVec 16)) hp (by simp) h

theorem setCounter_guarded (a b c d : Byte) :
    IsGuarded (.setCounter [a, b, c, d]) (setCounterBody (beNat [a, b, c, d])) := by
  intro s t code values hp h
  change execSetCounter [a, b, c, d] s = _
  exact State.next_heard (a := beNat [a, b, c, d]) hp (by simp) h

/-- The holder of a generation is the lowest ring slot LOADED with it (R43). -/
theorem State.holderOf_some {s : State} {g : Gen} {i : SlotIx} (hring : s.inRing i = true) (hstate : (s.slot i).state = .loaded)
    (hgen : (s.slot i).generation = some g)
    (hleast : ∀ j < i, ¬(s.inRing j = true ∧ (s.slot j).state = .loaded ∧ (s.slot j).generation = some g)) :
    s.holderOf g = some i := by
  refine (find?_eq_some_iff_least (turn := Fin.val) (List.pairwise_lt_finRange 64) List.mem_finRange _ i).mpr
    ⟨by simp [hring, hstate, hgen], fun q hq => Nat.not_lt.mp fun hlt => hleast q hlt ?_⟩
  simp only [Bool.and_eq_true, beq_iff_eq] at hq
  exact ⟨hq.1.1, hq.1.2, hq.2⟩

theorem State.holderOf_none {s : State} {g : Gen}
    (h : ∀ i, s.inRing i = true → (s.slot i).state = .loaded → (s.slot i).generation ≠ some g) : s.holderOf g = none := by
  refine List.find?_eq_none.mpr fun i _ hi => ?_
  simp only [Bool.and_eq_true, beq_iff_eq] at hi
  exact h i hi.1.1 hi.1.2 hi.2

theorem setWidth_toNat (g : Gen) : (g.setWidth 16).toNat = g.toNat := by
  have hg := g.isLt
  rw [BitVec.toNat_setWidth, Nat.mod_eq_of_lt (by omega)]

theorem setWidth_setWidth_gen (g : Gen) : (g.setWidth 16).setWidth 12 = g := by
  refine BitVec.eq_of_toNat_eq ?_
  rw [BitVec.toNat_setWidth, setWidth_toNat, Nat.mod_eq_of_lt g.isLt]

theorem setCurrentBody_some {s : State} {g : Gen} {i : SlotIx} (hlive : s.ring.live = false) (hholder : s.holderOf g = some i) :
    setCurrentBody (g.setWidth 16) s = reply .accepted [numByte i.val, numByte (i.val - s.store.geometry.head)]
      (s.spendPermit.startOp (.setCurrent i g (i.val - s.store.geometry.head)) Config.recordTime) := by
  have hg := g.isLt
  unfold setCurrentBody
  rw [if_neg (Bool.eq_false_iff.mp hlive), if_neg (by rw [setWidth_toNat]; omega), setWidth_setWidth_gen, hholder]

theorem setCurrentBody_none {s : State} {w : BitVec 16} (hlive : s.ring.live = false)
    (h : 4096 ≤ w.toNat ∨ s.holderOf (w.setWidth 12) = none) : setCurrentBody w s = refuse .genMissing s := by
  unfold setCurrentBody
  rw [if_neg (Bool.eq_false_iff.mp hlive)]
  split
  · rfl
  · rw [h.resolve_left ‹_›]

/-- Settles O56: the two acceptances. -/
theorem recordCommandsBegin : Obligations.RecordCommandsBegin := by
  unfold Obligations.RecordCommandsBegin
  intro s a b c d hp hpermit hidle hheld
  refine ⟨?_, ?_⟩
  · intro i g holds hlive hword hi hleast h
    obtain ⟨hring, hstate, hgen⟩ := hi
    have hbody := setCurrentBody_some (s := s.disarm .site) hlive
      (State.holderOf_some (s := s.disarm .site) hring hstate hgen hleast)
    rw [← hword] at hbody
    exact (setCurrent_guarded a b).free (t := { s with engine := { s.engine with
      permit := false, active := some { op := .setCurrent i g h, remaining := 1000 } } }) hp hpermit hidle hheld hbody
  · intro base limit hbase
    have hnot : ¬((s.disarm .site).counter.state ≠ .unset ∧ base < (s.disarm .site).counter.next) := fun ⟨hset, hlow⟩ =>
      hbase.elim (fun h => hset h) fun h => Nat.not_lt.mpr h hlow
    exact (setCounter_guarded a b c d).free (t := { s with
      counter := { s.counter with setting := true }
      engine := { s.engine with permit := false, active := some { op := .setCounter base limit, remaining := 1000 } } })
      hp hpermit hidle hheld (if_neg hnot)

/-! ### The refusals -/

/-- The settings commands that a frozen part refuses (R169). -/
def frozenCommands (a b c d : Byte) : List Instr :=
  [.setGeometry [a, b, c, d], .setProtectNv [a, b, 0x01], .lockArea [a], .setFreeze [a], .setSite [a, b], .setLanes [a]]

theorem frozenCommands_guarded {a b c d : Byte} {x : Instr} (hx : x ∈ frozenCommands a b c d) :
    ∃ plan, IsGuarded x (settingsBody true plan) := by
  simp only [frozenCommands, List.mem_cons, List.not_mem_nil, or_false] at hx
  rcases hx with rfl | rfl | rfl | rfl | rfl | rfl
  · exact ⟨_, setGeometry_guarded a b c d⟩
  · exact ⟨_, setProtectNv_guarded a b⟩
  · exact ⟨_, lockArea_guarded a⟩
  · exact ⟨_, setFreeze_guarded a⟩
  · exact ⟨_, setSite_guarded a b⟩
  · exact ⟨_, setLanes_guarded a⟩

theorem settingsCommands_guarded {a b c d : Byte} {x : Instr}
    (hx : x ∈ [.setRotation [a, b, c, d], .setWindow [a, b]] ++ frozenCommands a b c d) : ∃ body, IsGuarded x body := by
  rcases List.mem_append.mp hx with hx | hx
  · simp only [List.mem_cons, List.not_mem_nil, or_false] at hx
    rcases hx with rfl | rfl
    · exact ⟨_, setRotation_guarded a b c d⟩
    · exact ⟨_, setWindow_guarded a b⟩
  · obtain ⟨plan, h⟩ := frozenCommands_guarded hx
    exact ⟨_, h⟩

theorem recordCommands_guarded {a b c d : Byte} {x : Instr}
    (hx : x ∈ ([.setCurrent [a, b], .setCounter [a, b, c, d]] : List Instr)) : ∃ body, IsGuarded x body := by
  simp only [List.mem_cons, List.not_mem_nil, or_false] at hx
  rcases hx with rfl | rfl
  · exact ⟨_, setCurrent_guarded a b⟩
  · exact ⟨_, setCounter_guarded a b c d⟩

section
variable {s : State} {a b : Byte} {w : BitVec 16}

theorem geometryPlan_bad (h : ¬({ head := a.toNat, ring := b.toNat } : Geometry).Ok ∨ 4095 < w.toNat) :
    geometryPlan a b w s = .error .badGeometry := by
  refine if_pos (Bool.of_not_eq_false fun hgood => ?_)
  obtain ⟨hok, hw⟩ := (badGeometry_iff ..).mp hgood
  exact h.elim (fun hn => hn hok) fun hn => Nat.not_lt.mpr hw hn

theorem geometryPlan_ring {i : SlotIx} (hgood : badGeometry a.toNat b.toNat w = false) (huse : (s.slot i).state ≠ .blank)
    (hring : s.inRing i = true ∨ ({ head := a.toNat, ring := b.toNat } : Geometry).area i = .ring) :
    geometryPlan a b w s = .error .ringInUse := by
  refine (if_neg (Bool.eq_false_iff.mp hgood)).trans (if_pos (any_allSlots.mpr ⟨i, ?_⟩))
  simp only [Bool.and_eq_true, Bool.or_eq_true, beq_iff_eq, bne_iff_ne]
  exact ⟨hring, huse⟩

theorem geometryPlan_area {i : SlotIx} (hgood : badGeometry a.toNat b.toNat w = false)
    (hout : ∀ i, (s.slot i).state ≠ .blank → s.inRing i = false ∧
      ({ head := a.toNat, ring := b.toNat } : Geometry).area i ≠ .ring)
    (huse : (s.slot i).state ≠ .blank) (harea : ({ head := a.toNat, ring := b.toNat } : Geometry).area i ≠ s.areaOf i) :
    geometryPlan a b w s = .error .areaInUse := by
  refine (if_neg (Bool.eq_false_iff.mp hgood)).trans ((if_neg fun h => ?_).trans (if_pos (any_allSlots.mpr ⟨i, ?_⟩)))
  · obtain ⟨j, hj⟩ := any_allSlots.mp h
    simp only [Bool.and_eq_true, Bool.or_eq_true, beq_iff_eq, bne_iff_ne] at hj
    obtain ⟨hring, hfree⟩ := hout j hj.2
    exact hj.1.elim (fun h' => Bool.false_ne_true (hring.symm.trans h')) hfree
  · simp only [Bool.and_eq_true, bne_iff_ne]
    exact ⟨harea.symm, huse⟩

theorem protectPlan_badArea (h1 : a ≠ 0x01) (h2 : a ≠ 0x02) : protectPlan a b s = .error .badArea := by
  unfold protectPlan
  rw [fixedAreaOf_none h1 h2]

theorem lockPlan_badArea (h1 : a ≠ 0x01) (h2 : a ≠ 0x02) : lockPlan a s = .error .badArea := by
  unfold lockPlan
  rw [fixedAreaOf_none h1 h2]

end

/-- Settles O51: the shared checks, and then the first of each command's own that fails. -/
theorem settingsAndRecordsAreRefused : Obligations.SettingsAndRecordsAreRefused := by
  unfold Obligations.SettingsAndRecordsAreRefused
  refine ⟨fun s a b c d hp => ?settings, fun s a b c d hp => ?records⟩
  case settings =>
    intro refused free frozen
    refine ⟨fun x hx => ?_, fun hpermit hidle hheld => ⟨fun hfrozen x hx => ?_, ?window, fun hfrozen => ?unfrozen⟩⟩
    · obtain ⟨body, hguarded⟩ := settingsCommands_guarded (a := a) (b := b) (c := c) (d := d) hx
      exact hguarded.refusals hp
    · obtain ⟨plan, hguarded⟩ := frozenCommands_guarded (a := a) (b := b) (c := c) (d := d) hx
      exact hguarded.frozen hp hpermit hidle hheld hfrozen
    case window =>
      intro back hlive hraised i hring hstate o hlow hhigh
      refine (setWindow_guarded a b).unplanned hp hpermit hidle hheld (.inl rfl) (if_pos ?_)
      exact (s.windowConflict_iff back).mpr ⟨hlive, hraised, i, hring, hstate, hlow, hhigh⟩
    case unfrozen =>
      intro geo inUse
      have hrefused : ∀ {x plan code}, IsGuarded x (settingsBody true plan) → plan (s.disarm .site) = .error code →
          refused x code := fun h hplan => h.unplanned hp hpermit hidle hheld (.inr hfrozen) hplan
      have hword : (c ++ d : BitVec 16).toNat ≤ 4095 ↔ c.toNat < 16 := by
        rw [append_toNat]
        have hd := d.isLt
        omega
      have hgood : geo.Ok → c.toNat < 16 → badGeometry a.toNat b.toNat (c ++ d) = false := fun hok hc =>
        (badGeometry_iff ..).mpr ⟨hok, hword.mpr hc⟩
      refine ⟨fun hbad => ?_, fun hok hc i huse hring => ?_, fun hok hc hout i huse harea => ?_, fun h1 h2 => ⟨?_, ?_⟩, fun hlock => ?_,
        fun hmask => ?_⟩
      · refine hrefused (setGeometry_guarded a b c d) (geometryPlan_bad (hbad.imp_right fun h => ?_))
        exact Nat.not_le.mp ((not_congr hword).mpr (Nat.not_lt.mpr h))
      · exact hrefused (setGeometry_guarded a b c d) (geometryPlan_ring (s := s.disarm .site) (hgood hok hc) huse hring)
      · exact hrefused (setGeometry_guarded a b c d) (geometryPlan_area (s := s.disarm .site) (hgood hok hc) hout huse harea)
      · exact hrefused (setProtectNv_guarded a b) (protectPlan_badArea h1 h2)
      · exact hrefused (lockArea_guarded a) (lockPlan_badArea h1 h2)
      · rcases hlock with ⟨rfl, hlock⟩ | ⟨rfl, hlock⟩
        · exact hrefused (lockArea_guarded 0x01) (if_pos hlock)
        · exact hrefused (lockArea_guarded 0x02) (if_pos hlock)
      · exact hrefused (setLanes_guarded a) (if_pos hmask)
  case records =>
    intro refused
    refine ⟨fun x hx => ?_, fun hpermit hidle hheld => ⟨fun hlive => ?_, fun hlive hmissing => ?_, fun hset hlow => ?_⟩⟩
    · obtain ⟨body, hguarded⟩ := recordCommands_guarded hx
      exact hguarded.refusals hp
    · exact (setCurrent_guarded a b).free (t := s) hp hpermit hidle hheld (if_pos hlive)
    · refine (setCurrent_guarded a b).free (t := s) hp hpermit hidle hheld (setCurrentBody_none (s := s.disarm .site) hlive ?_)
      have ha : 4096 ≤ (a ++ b : BitVec 16).toNat ↔ 16 ≤ a.toNat := by
        rw [append_toNat]
        have hb := b.isLt
        omega
      by_cases hlarge : 16 ≤ a.toNat
      · exact .inl (ha.mpr hlarge)
      · refine .inr (State.holderOf_none (s := s.disarm .site) fun i hring hstate hgen => ?_)
        refine (hmissing.resolve_left hlarge) i _ hring hstate hgen (BitVec.eq_of_toNat_eq ?_)
        have hlt : (a ++ b : BitVec 16).toNat < 4096 := Nat.not_le.mp ((not_congr ha).mpr hlarge)
        rw [setWidth_toNat, BitVec.toNat_setWidth, Nat.mod_eq_of_lt hlt]
    · exact (setCounter_guarded a b c d).free (t := s) hp hpermit hidle hheld (if_pos ⟨hset, hlow⟩)

end Sys2Proof.Machine

/-! PROOFS. What time does to the part, the rotation timer, the alignment check and the advance (R24, R28, R30 to R37, R60, R66). -/

namespace Sys2Proof.Machine

/-! ### The passing of time -/

theorem State.wait_unpowered {s : State} (h : s.power = .off ∨ s.power = .held) (n : Nat) : s.wait n = s := by
  unfold State.wait State.elapse
  rcases h with h | h <;> rw [h]

theorem State.wait_powered {s : State} (h : s.power = .starting ∨ s.power = .running) (n : Nat) : s.wait n =
    { s with clock := { time := s.clock.time + BitVec.ofNat 32 ((s.clock.tenths + 10 * n) / 10), tenths := s.clock.tenths % 10
                        startupLeft := s.clock.startupLeft - (s.clock.tenths + 10 * n) / 10
                        rotLeft := s.clock.rotLeft - (s.clock.tenths + 10 * n) / 10 }
             ring := s.ring.elapse ((s.clock.tenths + 10 * n) / 10)
             engine := s.engine.elapse ((s.clock.tenths + 10 * n) / 10)
             cipher := { s.cipher with work := s.cipher.work.map fun w => { w with left := w.left - 10 * n } } } := by
  have htenths : (s.clock.tenths + 10 * n) % 10 = s.clock.tenths % 10 := Nat.add_mul_mod_self_left ..
  unfold State.wait State.elapse
  rw [← htenths]
  rcases h with h | h <;> rw [h]

theorem Ring.elapse_frame (r : Ring) (n : Nat) :
    r.elapse n = { r with remaining := (r.elapse n).remaining, secondRun := (r.elapse n).secondRun } := by
  unfold Ring.elapse
  dsimp only
  split
  · split <;> rfl
  · rfl

theorem Ring.elapse_still {r : Ring} (h : r.period = 0 ∨ r.live = false ∨ r.rotationPending = true) (n : Nat) :
    r.elapse n = r := by
  refine if_neg fun hcounting => ?_
  simp only [Ring.counting, Bool.and_eq_true, decide_eq_true_iff, Bool.not_eq_true'] at hcounting
  obtain ⟨⟨hperiod, hlive⟩, hpending⟩ := hcounting
  rcases h with h | h | h
  · omega
  · exact Bool.false_ne_true (h.symm.trans hlive)
  · exact Bool.false_ne_true (hpending.symm.trans h)

theorem Ring.counting_iff (r : Ring) :
    r.counting = true ↔ 0 < r.period ∧ r.live = true ∧ r.rotationPending = false := by
  simp only [Ring.counting, Bool.and_eq_true, decide_eq_true_iff, Bool.not_eq_true', and_assoc]

/-- The counting timer keeps the time that has passed, second by second (R34). -/
theorem Ring.elapse_counting {r : Ring} (h : r.counting = true) {n : Nat} (hn : r.secondRun + n < r.remaining * 1000000) :
    (r.elapse n).secondRun < 1000000 ∧
      (r.elapse n).remaining * 1000000 + n + r.secondRun = r.remaining * 1000000 + (r.elapse n).secondRun := by
  have hrun : (r.secondRun + n) / 1000000 < r.remaining := by omega
  have helapse : r.elapse n = { r with remaining := r.remaining - (r.secondRun + n) / 1000000
                                       secondRun := (r.secondRun + n) % 1000000 } :=
    (if_pos h).trans (if_pos hrun)
  rw [helapse]
  dsimp only
  omega

/-- The counting timer stops at 0 (R34). -/
theorem Ring.elapse_expired {r : Ring} (h : r.counting = true) {n : Nat} (hn : r.remaining * 1000000 ≤ r.secondRun + n) :
    (r.elapse n).remaining = 0 ∧ (r.elapse n).secondRun = 0 := by
  have hrun : ¬(r.secondRun + n) / 1000000 < r.remaining := by omega
  have helapse : r.elapse n = { r with remaining := 0, secondRun := 0 } := (if_pos h).trans (if_neg hrun)
  rw [helapse]
  exact ⟨rfl, rfl⟩

/-- Settles O49: the clocks, the timer, the engines, and the two events that wait for them. -/
theorem timePassesAndPulsesEnd : Obligations.TimePassesAndPulsesEnd := by
  unfold Obligations.TimePassesAndPulsesEnd
  refine ⟨fun s => ⟨fun hp => ⟨fun hpending => ?_, fun hpending => ?_⟩, rfl, fun hpower => ?_, rfl, fun hpower => ?_⟩,
    fun s n => ?_⟩
  · change execCancelRotation [] s = _
    exact State.next_heard (a := ()) (t := { s with ring := { s.ring with
      rotationPending := false, remaining := s.ring.period, secondRun := 0 } }) hp (by decide) (if_pos hpending)
  · change execCancelRotation [] s = _
    exact State.next_heard (a := ()) (t := s) hp (by decide) (if_neg (Bool.eq_false_iff.mp hpending))
  · rw [State.wait_powered hpower]
    refine decide_eq_false ?_
    dsimp only
    omega
  · rw [State.wait_powered hpower]
    change s.engine.restLeft - _ = 0
    omega
  · intro t k
    refine ⟨fun h => State.wait_unpowered h n, fun h => ?_⟩
    have ht : t = _ := State.wait_powered h n
    have hring : t.ring = s.ring.elapse k := by rw [ht]
    refine ⟨?_, fun hstill => hring.trans (Ring.elapse_still hstill k), fun hperiod hlive hpending => ⟨fun hn => ?_, fun hn => ?_⟩⟩
    · have hframe := s.ring.elapse_frame k
      rw [← hring] at hframe
      rw [← hframe, hring]
      exact ht
    · rw [hring]
      exact Ring.elapse_counting (s.ring.counting_iff.mpr ⟨hperiod, hlive, hpending⟩) hn
    · rw [hring]
      exact Ring.elapse_expired (s.ring.counting_iff.mpr ⟨hperiod, hlive, hpending⟩) hn

/-! ### The precondition of an advance -/

theorem Ring.genAt_one (r : Ring) : r.genAt 1 = r.c + 1 := by
  refine BitVec.eq_of_toNat_eq ?_
  have hc := r.c.isLt
  have hone : (1 : Gen).toNat = 1 := rfl
  unfold Ring.genAt
  rw [BitVec.toNat_ofInt, BitVec.toNat_add, hone]
  omega

theorem State.nextReady_iff (s : State) : s.nextReady = true ↔ s.ring.live = true ∧
    (s.slot (s.ring.slotAt s.store.geometry 1)).state = .loaded ∧
    (s.slot (s.ring.slotAt s.store.geometry 1)).generation = some (s.ring.c + 1) := by
  simp only [State.nextReady, Bool.and_eq_true, beq_iff_eq, Ring.genAt_one, and_assoc]

theorem State.wait_nextReady (s : State) (n : Nat) : (s.wait n).nextReady = s.nextReady := by
  have hat : (s.wait n).ring.slotAt (s.wait n).store.geometry 1 = s.ring.slotAt s.store.geometry 1 := by
    unfold Ring.slotAt Ring.slotAtOffset
    rw [State.wait_ring_h, State.wait_store]
  rw [Bool.eq_iff_iff, State.nextReady_iff, State.nextReady_iff, hat, State.slot_wait, State.wait_ring_live, State.wait_ring_c]

/-! ### The advance around its alignment check -/

/-- An advance writes the slots, the cache and the sessions by the alignment check of the moved ring (R31). -/
theorem State.advance_eq (s : State) : s.advance =
    ({ s with ring := { s.stepped.ring with remaining := s.ring.period, secondRun := 0, rotationPending := false }
              store := s.stepped.alignmentCheck.store, cache := s.stepped.alignmentCheck.cache
              lanes := s.stepped.alignmentCheck.lanes
              engine := { s.engine with genRequest := some { c := s.stepped.ring.c, h := s.stepped.ring.h
                                                             retry := match s.engine.genRequest with
                                                               | some r => r.retry
                                                               | none => false } }
              clock := { s.clock with rotLeft := 2 }
              site := { s.site with flags := s.site.flags ||| SiteFlag.rotated.bit } } : State).flagLanes .rotated := by
  have hframe := s.stepped.alignmentCheck_frame
  have hadvance : s.advance = ((({ s.stepped.alignmentCheck with
      ring := { s.stepped.alignmentCheck.ring with rotationPending := false }.reload } : State).requestGenRecord |> fun asked : State =>
      { asked with clock := { asked.clock with rotLeft := Config.rotTime } }).flagSite .rotated).flagLanes .rotated := rfl
  rw [hadvance]
  generalize s.stepped.alignmentCheck = A at hframe
  generalize A.store = st at hframe
  generalize A.cache = ca at hframe
  generalize A.lanes = la at hframe
  subst hframe
  rfl

theorem State.advance_disarm (s : State) : (s.disarm .site).advance = s.advance.disarm .site := by
  have hstepped : (s.disarm .site).stepped = { s.stepped with engine := s.stepped.engine, site := (s.disarm .site).site } := rfl
  have hcheck := s.stepped.alignmentCheck_over s.stepped.engine (s.disarm .site).site
  rw [← hstepped] at hcheck
  rw [State.advance_eq, State.advance_eq, hcheck]
  rfl

/-! ### ADVANCE and the timer's expiry -/

section
variable {s : State}

theorem exec_advance {t : State} {code : Code} {values : List Byte} (hp : s.Admits .site)
    (hrule : advanceRule (s.disarm .site) = reply code values (t.disarm .site)) :
    exec (.advance []) s = .next (t.heard .site code values) := by
  change execAdvance [] s = _
  exact State.next_heard (a := ()) hp (by decide) hrule

theorem advanceRule_ready (h : s.nextReady = true) : advanceRule s =
    reply .ok (genBytes (s.ring.c + 1) ++ [numByte ((s.ring.h + 1) % s.store.geometry.ring)]) s.advance := by
  have hlive : ¬s.ring.live = false := (not_congr Bool.eq_false_iff).mpr (Classical.not_not.mpr (s.nextReady_iff.mp h).1)
  unfold advanceRule
  rw [if_neg hlive, if_pos h]
  dsimp only
  rw [State.advance_ring]

theorem exec_rotationTimerExpiry (hpower : s.power = .running) (hcounting : s.ring.counting = true) :
    exec .rotationTimerExpiry s = if s.nextReady then .next (s.wait s.ring.untilExpiry).advance
      else .next (s.wait s.ring.untilExpiry).rotateLate := by
  rw [← s.wait_nextReady s.ring.untilExpiry]
  exact if_pos ⟨hpower, hcounting⟩

end

/-! ### The alignment check and the advance -/

section
variable (s : State)

/-- A LOADED ring slot that does not hold the generation of its position (R28). -/
theorem State.misaligned_iff (i : SlotIx) : s.misaligned i = true ↔ s.inRing i = true ∧ (s.slot i).state = .loaded ∧
    (s.slot i).generation ≠ some (s.ring.standsFor s.store.geometry i) := by
  simp only [State.misaligned, State.aligned, Bool.and_eq_true, Bool.not_eq_true', beq_iff_eq, beq_eq_false_iff_ne, and_assoc]

theorem State.generationsOf_misaligned (g : Gen) : s.generationsOf s.misaligned g = true ↔
    ∃ i, (s.inRing i = true ∧ (s.slot i).state = .loaded ∧
      (s.slot i).generation ≠ some (s.ring.standsFor s.store.geometry i)) ∧ (s.slot i).generation = some g := by
  simp only [State.generationsOf_iff, State.misaligned_iff]
  exact ⟨fun ⟨i, hi, _, hg⟩ => ⟨i, hi, hg⟩, fun ⟨i, hi, hg⟩ => ⟨i, hi, hi.1, hg⟩⟩

theorem State.alignmentCheck_live (hlive : s.ring.live = true) : s.alignmentCheck = s.retireSlots s.misaligned := if_pos hlive

theorem State.alignmentCheck_geometry : s.alignmentCheck.store.geometry = s.store.geometry := by
  unfold State.alignmentCheck
  split
  · exact geometry_retireSlots ..
  · rfl

theorem State.cache_alignmentCheck : s.alignmentCheck.cache =
    s.cache.filter fun e => !(s.ring.live && s.generationsOf s.misaligned e.generation) := by
  cases hlive : s.ring.live with
  | false =>
    rw [State.alignmentCheck_unset _ hlive]
    exact (List.filter_eq_self.mpr fun _ _ => rfl).symm
  | true =>
    rw [State.alignmentCheck_live _ hlive, State.cache_retireSlots]
    rfl

theorem State.lane_alignmentCheck (l : LaneIx) : s.alignmentCheck.lane l =
    (s.lane l).loseSessions fun x => s.ring.live && s.generationsOf s.misaligned x.generation := by
  cases hlive : s.ring.live with
  | false =>
    rw [State.alignmentCheck_unset _ hlive]
    exact (Lane.loseSessions_none _ _ fun _ _ _ => rfl).symm
  | true =>
    rw [State.alignmentCheck_live _ hlive, State.lane_retireSlots]
    rfl

end

/-- Settles O48: the precondition, the alignment check slot by slot, and the advance around it. -/
theorem advanceMovesTheRing : Obligations.AdvanceMovesTheRing := by
  unfold Obligations.AdvanceMovesTheRing
  refine ⟨fun s => ⟨s.nextReady_iff, fun hp => ⟨fun hready => ?_, fun hlive => ?_, fun hlive hready => ?_⟩,
    fun hpower hperiod hlive hpending => ?timer⟩, fun s => ?check, fun s hlive => ?advance⟩
  · have hrule := advanceRule_ready (s := s.disarm .site) hready
    rw [State.advance_disarm] at hrule
    exact exec_advance hp hrule
  · exact exec_advance hp (if_pos (c := (s.disarm .site).ring.live = false) hlive)
  · refine exec_advance (t := s) hp ?_
    have hlive' : ¬(s.disarm .site).ring.live = false := (not_congr Bool.eq_false_iff).mpr (Classical.not_not.mpr hlive)
    have hready' : ¬(s.disarm .site).nextReady = true := Bool.eq_false_iff.mp hready
    unfold advanceRule
    rw [if_neg hlive', if_neg hready']
    rfl
  case timer =>
    intro due
    have hexec := exec_rotationTimerExpiry hpower (s.ring.counting_iff.mpr ⟨hperiod, hlive, hpending⟩)
    refine ⟨fun hready => hexec.trans (if_pos hready), fun hready => (hexec.trans (if_neg (Bool.eq_false_iff.mp hready))).trans ?_⟩
    have hsite : due.site = s.site := State.wait_site ..
    rw [← hsite]
    rfl
  case check =>
    intro t left gone
    have hleft : ∀ i, left i ↔ s.ring.live = true ∧ s.misaligned i = true := fun i => by rw [State.misaligned_iff]
    have hgone : ∀ g, gone g ↔ (s.ring.live && s.generationsOf s.misaligned g) = true := fun g => by
      rw [Bool.and_eq_true, State.generationsOf_misaligned]
      exact ⟨fun ⟨i, hi, hg⟩ => ⟨hi.1, i, hi.2, hg⟩, fun ⟨hlive, i, hi, hg⟩ => ⟨i, ⟨hlive, hi⟩, hg⟩⟩
    refine ⟨s.alignmentCheck_frame, s.alignmentCheck_geometry, fun i hi => ?_, fun i hi => ?_,
      ⟨fun e => !(s.ring.live && s.generationsOf s.misaligned e.generation), fun e => ?_, s.cache_alignmentCheck⟩, fun l => ?_⟩
    · exact (s.alignmentCheck_slot i).trans (if_pos ((hleft i).mp hi))
    · exact (s.alignmentCheck_slot i).trans (if_neg ((not_congr (hleft i)).mp hi))
    · rw [hgone]
      cases s.ring.live <;> simp
    · intro lost
      have hlost : ∀ e, lost e ↔ ∃ x, ((s.lane l).sessions[e]).session = some x ∧
          (s.ring.live && s.generationsOf s.misaligned x.generation) = true := fun e => by simp only [lost, hgone]
      have hcases := Lane.loseSessions_cases (s.lane l) fun x => s.ring.live && s.generationsOf s.misaligned x.generation
      simp only [← hlost] at hcases
      rw [← s.lane_alignmentCheck l] at hcases
      exact hcases
  case advance =>
    intro t moved left gone retry
    have ht : t = _ := s.advance_eq
    have hgeometry : s.stepped.alignmentCheck.store.geometry = s.store.geometry := s.stepped.alignmentCheck_geometry
    have hslot := s.stepped.alignmentCheck_slot
    have hcache := s.stepped.cache_alignmentCheck
    have hlane := s.stepped.lane_alignmentCheck
    have hmoved : s.stepped.ring.live = true := hlive
    have hleft : ∀ i, left i ↔ s.stepped.misaligned i = true := fun i => (s.stepped.misaligned_iff i).symm
    have hgone : ∀ g, gone g ↔ s.stepped.generationsOf s.stepped.misaligned g = true := fun g =>
      (s.stepped.generationsOf_misaligned g).symm
    rw [hmoved] at hcache hlane
    simp only [hmoved, true_and, Bool.true_and] at hslot hcache hlane
    generalize s.stepped.alignmentCheck = A at ht hgeometry hslot hcache hlane
    have hstore : t.store = A.store := by rw [ht]; exact State.flagLanes_store ..
    have hcache' : t.cache = A.cache := by rw [ht]; exact State.flagLanes_cache ..
    have hslot' : ∀ i, t.slot i = if s.stepped.misaligned i = true then (s.slot i).retire else s.slot i := fun i =>
      (State.slot_of_store hstore i).trans (hslot i)
    have hlane' : ∀ l, t.lane l = ((s.lane l).loseSessions fun x =>
        s.stepped.generationsOf s.stepped.misaligned x.generation).flag .rotated := fun l => by
      rw [ht, State.lane_flagLanes]
      exact congrArg (Lane.flag .rotated) (hlane l)
    refine ⟨?_, (congrArg KeyStore.geometry hstore).trans hgeometry, fun i hi => (hslot' i).trans (if_pos ((hleft i).mp hi)),
      fun i hi => (hslot' i).trans (if_neg ((not_congr (hleft i)).mp hi)),
      ⟨fun e => !s.stepped.generationsOf s.stepped.misaligned e.generation, fun e => ?_, hcache'.trans hcache⟩, fun l => ?_⟩
    · rw [hstore, hcache', congrArg State.lanes ht]
      exact ht
    · rw [hgone]
      simp
    · intro lost
      have hlost : ∀ e, lost e ↔ ∃ x, ((s.lane l).sessions[e]).session = some x ∧
          s.stepped.generationsOf s.stepped.misaligned x.generation = true := fun e => by simp only [lost, hgone]
      obtain ⟨hclosed, hkept, -, -⟩ := Lane.loseSessions_cases (s.lane l) fun x =>
        s.stepped.generationsOf s.stepped.misaligned x.generation
      obtain ⟨y, hsome, hnone, hpurged⟩ := Lane.loseSessions_over (s.lane l) fun x =>
        s.stepped.generationsOf s.stepped.misaligned x.generation
      simp only [← hlost] at hclosed hkept hsome hnone
      have hsessions : (t.lane l).sessions = _ := (congrArg Lane.sessions (hlane' l)).trans (Lane.flag_sessions ..)
      rw [hsessions, hlane' l]
      exact ⟨hclosed, hkept, y, hsome, hnone, (congrArg (Lane.flag .rotated) hpurged).trans (Lane.flag_over ..)⟩

end Sys2Proof.Machine

/-! PROOFS. What a port answers does not depend on any key that the part holds (R15). No event of the part but a start-up, a loss
of power and a frame on a port touches a response; a frame's response is decided by what the blinded state shows as well. -/

namespace Sys2Proof.Machine

/-! ### What leaves the responses alone -/

/-- The responses of all ports stand. -/
structure Mute (s t : State) : Prop where
  port : ∀ p, (t.port p).response = (s.port p).response

section
variable {s t u : State}

theorem Mute.refl (s : State) : Mute s s := ⟨fun _ => rfl⟩

theorem Mute.trans (h : Mute s t) (h' : Mute t u) : Mute s u :=
  ⟨fun p => (h'.port p).trans (h.port p)⟩

theorem mute_of (hsite : t.site.port.response = s.site.port.response)
    (hlanes : ∀ l, (t.lane l).port.response = (s.lane l).port.response) : Mute s t where
  port
    | .lane l => hlanes l
    | .site => hsite

theorem mute_same (hsite : t.site = s.site) (hlanes : t.lanes = s.lanes) : Mute s t :=
  mute_of (by rw [hsite]) fun l => by simp only [State.lane, hlanes]

end

section
variable (s : State)

theorem mute_mapLanesAt {f : LaneIx → Lane → Lane} (hf : ∀ l x, (f l x).port.response = x.port.response) :
    Mute s (s.mapLanesAt f) :=
  mute_of rfl fun l => by rw [State.lane_mapLanesAt, hf]

theorem mute_mapLanes {f : Lane → Lane} (hf : ∀ x, (f x).port.response = x.port.response) : Mute s (s.mapLanes f) :=
  mute_mapLanesAt s fun _ => hf

theorem mute_setLane (l : LaneIx) {x : Lane} (hx : x.port.response = (s.lane l).port.response) : Mute s (s.setLane l x) := by
  refine mute_of rfl fun k => ?_
  rw [State.lane_setLane]
  split
  · rename_i h
    rw [hx, h]
  · rfl

theorem mute_setPort (p : Port) {x : PortUnit} (hx : x.response = (s.port p).response) : Mute s (s.setPort p x) := by
  cases p with
  | lane l => exact mute_setLane s l hx
  | site => exact mute_of hx fun _ => rfl

theorem mute_flagSite (f : SiteFlag) : Mute s (s.flagSite f) := mute_of rfl fun _ => rfl

theorem mute_outcome (k : OutcomeKind) (a : Target) (c : Code) (good : Bool) : Mute s (s.outcome k a c good) :=
  mute_of rfl fun _ => rfl

theorem mute_disarm (p : Port) : Mute s (s.disarm p) := by
  cases p with
  | lane l => exact .refl s
  | site => exact mute_of rfl fun _ => rfl

end

/-! ### Lanes -/

section
variable (x : Lane)

theorem Lane.response_flag (f : LaneFlag) : (x.flag f).port.response = x.port.response := by
  unfold Lane.flag
  split <;> rfl

theorem Lane.response_loseSessions (p : Session → Bool) : (x.loseSessions p).port.response = x.port.response := by
  unfold Lane.loseSessions
  split
  · exact Lane.response_flag ..
  · rfl

theorem Lane.response_discard : x.discard.port.response = x.port.response := Lane.response_loseSessions ..

theorem Lane.response_switch (before after : Bool) : (x.switch before after).port.response = x.port.response := by
  unfold Lane.switch
  split
  · rfl
  · split <;> rfl

theorem Lane.response_endHead (code : Code) : (x.endHead code).port.response = x.port.response := by
  unfold Lane.endHead
  split <;> rfl

theorem Lane.response_lapse (place : Nat) : (x.lapse place).port.response = x.port.response := by
  unfold Lane.lapse
  split
  · exact Lane.response_endHead ..
  · rfl

theorem Lane.response_openSession (now : Time) (v : Session) : (x.openSession now v).1.port.response = x.port.response := by
  unfold Lane.openSession
  split
  · rfl
  · exact Lane.response_flag ..

theorem Lane.response_verify (v : VerifyJob) (expected : BitVec 64) : (x.verify v expected).1.port.response = x.port.response := by
  unfold Lane.verify
  split
  · rfl
  · split <;> rfl

theorem Lane.response_pushResult (r : Result) : (x.pushResult r).port.response = x.port.response := by
  unfold Lane.pushResult
  rfl

end

/-! ### Operations -/

section
variable (s : State)

theorem mute_flagLanes (f : LaneFlag) : Mute s (s.flagLanes f) := mute_mapLanes s (Lane.response_flag · f)

theorem mute_elapse (n : Nat) : Mute s (s.elapse n) := mute_same (State.elapse_site ..) (State.elapse_lanes ..)

theorem mute_wait (n : Nat) : Mute s (s.wait n) := mute_elapse ..

theorem mute_mapSlots (f : SlotIx → Slot → Slot) : Mute s (s.mapSlots f) :=
  mute_same (State.mapSlots_site ..) (State.mapSlots_lanes ..)

theorem mute_mapNvSlots (f : SlotIx → NvSlot → NvSlot) : Mute s (s.mapNvSlots f) :=
  mute_same (State.mapNvSlots_site ..) (State.mapNvSlots_lanes ..)

theorem mute_purge (gone : Gen → Bool) : Mute s (s.purge gone) :=
  have kept : Mute s { s with cache := s.cache.filter fun e => !gone e.generation } := mute_same rfl rfl
  kept.trans (mute_mapLanes _ fun x => x.response_loseSessions _)

theorem mute_retireSlots (p : SlotIx → Bool) : Mute s (s.retireSlots p) := (mute_mapSlots s _).trans (mute_purge ..)

theorem mute_alignmentCheck : Mute s s.alignmentCheck := by
  unfold State.alignmentCheck
  split
  · exact mute_retireSlots ..
  · exact .refl s

theorem mute_settleRetry : Mute s s.settleRetry := by
  unfold State.settleRetry
  split
  · exact .refl s
  · exact mute_same rfl rfl

theorem mute_beginErase (op : SlotOp) : Mute s (s.beginErase op) :=
  (((mute_mapSlots s _).trans (mute_mapNvSlots ..)).trans (mute_purge ..)).trans (mute_settleRetry _)

theorem mute_requestGenRecord : Mute s s.requestGenRecord :=
  mute_same (State.requestGenRecord_site ..) (State.requestGenRecord_lanes ..)

theorem mute_ring (r : Ring) : Mute s { s with ring := r } := mute_same rfl rfl

theorem mute_clock (k : Clock) : Mute s { s with clock := k } := mute_same rfl rfl

theorem mute_counter (k : Counter) : Mute s { s with counter := k } := mute_same rfl rfl

theorem mute_engine (e : WriteEngine) : Mute s { s with engine := e } := mute_same rfl rfl

theorem mute_cipher (x : Cipher) : Mute s { s with cipher := x } := mute_same rfl rfl

theorem mute_advance : Mute s s.advance :=
  have checked : Mute s _ := (mute_ring s _).trans (mute_alignmentCheck _)
  have asked : Mute s _ := (checked.trans (mute_ring ..)).trans (mute_requestGenRecord _)
  ((asked.trans (mute_clock ..)).trans (mute_flagSite _ .rotated)).trans (mute_flagLanes ..)

theorem mute_discardLane (l : LaneIx) : Mute s (s.discardLane l) :=
  (mute_setLane s l (Lane.response_discard _)).trans (mute_cipher ..)

theorem mute_examineLowWater : Mute s s.examineLowWater := by
  unfold State.examineLowWater
  split
  · exact mute_same rfl rfl
  · exact .refl s

theorem mute_report : Mute s s.report := mute_mapLanes s fun _ => rfl

theorem mute_issueNumber : Mute s s.issueNumber := by
  unfold State.issueNumber
  dsimp only
  split
  · exact (mute_counter s _).trans (mute_flagSite ..)
  · exact (mute_counter s _).trans (mute_examineLowWater _)

theorem mute_startInternal : Mute s s.startInternal := by
  unfold State.startInternal
  split
  · exact mute_same rfl rfl
  · split
    · exact mute_same rfl rfl
    · split
      · exact mute_same rfl rfl
      · exact .refl s

theorem mute_proceed : Mute s s.proceed := by
  unfold State.proceed
  split
  · exact mute_startInternal s
  · split
    · exact mute_same rfl rfl
    · exact .refl s

theorem mute_holdActive (who : HeldBy) : Mute s (s.holdActive who) := by
  unfold State.holdActive
  split
  · exact mute_same rfl rfl
  · exact .refl s

/-- An operation that ends with its outcome. -/
theorem mute_outcome_proceed (k : OutcomeKind) (a : Target) (c : Code) (good : Bool) :
    Mute s (s.outcome k a c good).endOp.proceed :=
  .trans (mute_of (t := (s.outcome k a c good).endOp) rfl fun _ => rfl) (mute_proceed _)

theorem mute_countError (p : Port) (k : ErrorKind) : Mute s (s.countError p k) := by
  have hset : ∀ (n : Byte) (st : PortState), Mute s (s.setPort p { (s.port p).setCount k n with state := st }) :=
    fun n st => mute_setPort s p (by cases k <;> rfl)
  unfold State.countError
  dsimp only
  split
  · exact (hset ..).trans (mute_flagSite ..)
  · exact mute_setPort s p (by cases k <;> rfl)

end

/-! ### Lanes and the cipher engine -/

section
variable (s : State) {t : State} (l : LaneIx)

theorem mute_enter (p : Port) (blocks : Nat) (task : Task) : Mute s (s.enter p blocks task) := mute_cipher ..

theorem mute_takeHead : Mute s (s.takeHead l) := mute_setLane s l rfl

theorem mute_endAtDispatch (code : Code) : Mute s (s.endAtDispatch l code) := mute_setLane s l (Lane.response_endHead ..)

theorem mute_enterCounterWait : Mute s (s.enterCounterWait l) :=
  have waiting : Mute s (s.setLane l { s.lane l with counterWait := true }) := mute_setLane s l rfl
  waiting.trans (mute_flagSite ..)

theorem mute_cache (x : List CacheEntry) : Mute s { s with cache := x } := mute_same rfl rfl

theorem mute_requestReservation : Mute s s.requestReservation := mute_same rfl rfl

theorem mute_enterAnswer (j : Job) (a : AnswerJob) : Mute s (s.enterAnswer l j a) := by
  unfold State.enterAnswer
  refine (mute_takeHead s l).trans ?_
  dsimp only
  generalize s.takeHead l = u
  split
  · exact mute_enter ..
  · split
    · exact mute_same rfl rfl
    · exact mute_same rfl rfl

theorem mute_dispatchVerify (j : Job) (v : VerifyJob) : Mute s (s.dispatchVerify l j v) := by
  unfold State.dispatchVerify
  split
  · exact mute_endAtDispatch ..
  · split
    · exact mute_endAtDispatch ..
    · exact (mute_takeHead ..).trans (mute_enter ..)

theorem mute_enterSeal (j : Job) (k : SealJob) (x : Session) (i : SlotIx) : Mute s (s.enterSeal l j k x i) :=
  have issued : Mute s _ := (mute_takeHead s l).trans (mute_issueNumber _)
  (issued.trans (mute_setLane _ l (x := Lane.setSession ..) rfl)).trans (mute_enter ..)

theorem mute_counterCheck (j : Job) (k : SealJob) (x : Session) (i : SlotIx) : Mute s (s.counterCheck l j k x i) := by
  unfold State.counterCheck
  split
  · exact mute_endAtDispatch ..
  · exact mute_endAtDispatch ..
  · split
    · exact mute_enterCounterWait ..
    · split
      · exact mute_enterSeal ..
      · split
        · exact mute_enterCounterWait ..
        · exact (mute_requestReservation s).trans (mute_enterCounterWait ..)

theorem mute_dispatchSeal (j : Job) (k : SealJob) : Mute s (s.dispatchSeal l j k) := by
  unfold State.dispatchSeal
  split
  · exact mute_endAtDispatch ..
  · split
    · exact mute_endAtDispatch ..
    · split
      · exact mute_endAtDispatch ..
      · exact mute_counterCheck ..

theorem mute_dispatch : Mute s (s.dispatch l) := by
  unfold State.dispatch
  split
  · exact .refl s
  · split
    · exact mute_endAtDispatch ..
    · split
      · exact mute_enterAnswer ..
      · exact mute_dispatchVerify ..
      · exact mute_dispatchSeal ..

theorem mute_grantSite : Mute s s.grantSite := by
  unfold State.grantSite
  split
  · exact .refl s
  · split
    · exact mute_enter ..
    · split
      · exact mute_enter ..
      · exact .trans (mute_engine s _) (mute_outcome s.endOp _ _ _ _)

theorem mute_pushResult (r : Result) {x : Lane} (hx : x.port.response = (s.lane l).port.response) :
    Mute s (s.setLane l (x.pushResult r)) := mute_setLane s l ((Lane.response_pushResult x r).trans hx)

theorem mute_deliver (detached : Bool) (r : Result) : Mute s (s.deliver l detached r) := by
  unfold State.deliver
  split
  · exact .refl s
  · exact mute_pushResult s l r rfl

theorem mute_offerKey (hit : Bool) (tagId : BitVec 64) (g : Gen) (kt : Block) (i : SlotIx) :
    Mute s (s.offerKey hit tagId g kt i) := by
  unfold State.offerKey
  split
  · exact mute_cache ..
  · exact .refl s

theorem mute_finishAnswer (detached : Bool) (tag : Byte) (a : AnswerJob) (i : SlotIx) (hit : Bool) (kt : Block)
    (nr proof : BitVec 64) : Mute s (s.finishAnswer l detached tag a i hit kt nr proof) := by
  unfold State.finishAnswer
  dsimp only
  have offered := mute_offerKey s hit a.tagId a.gen kt i
  split
  · exact offered.trans (mute_pushResult _ l _ (Lane.response_openSession ..))
  · exact offered.trans (mute_deliver ..)

end

/-! ### Events -/

section
variable {s t : State}

theorem mute_power (s : State) (x : Power) : Mute s { s with power := x } := mute_same rfl rfl

theorem mute_execStartupEnd (h : execStartupEnd s = .next t) : Mute s t := by
  unfold execStartupEnd at h
  split at h
  · cases h
    have due := mute_wait s s.clock.startupLeft
    generalize s.wait s.clock.startupLeft = u at due ⊢
    have opened : Mute s { u with power := .running }.openLanes :=
      (due.trans (mute_power u .running)).trans
        (mute_mapLanesAt _ (f := fun l x => x.endStartup (u.laneEnable.getLsbD l.val)) fun l x => rfl)
    exact opened.trans (mute_of rfl fun _ => rfl)
  · cases h
    exact .refl s

theorem mute_execJobLapse {l : LaneIx} {place : Fin 8} (h : execJobLapse l place s = .next t) : Mute s t := by
  unfold execJobLapse at h
  split at h
  · split at h
    · cases h
      exact (mute_wait ..).trans (mute_setLane _ l (Lane.response_lapse ..))
    · cases h
      exact .refl s
  · cases h
    exact .refl s

theorem mute_execGrant (h : execGrant s = .next t) : Mute s t := by
  unfold execGrant at h
  split at h
  · split at h
    · cases h
      exact (mute_cipher s _).trans (mute_dispatch ..)
    · cases h
      exact (mute_cipher s _).trans (mute_grantSite _)
    · cases h
      exact .refl s
  · cases h
    exact .refl s

theorem mute_endWork (s : State) : Mute s s.endWork := mute_cipher ..

theorem mute_execAnswerCompletion (h : execAnswerCompletion s = .next t) : Mute s t := by
  unfold execAnswerCompletion at h
  split at h
  · cases h
    exact ((mute_elapse ..).trans (mute_finishAnswer ..)).trans (mute_endWork _)
  · cases h
    exact ((mute_elapse ..).trans (mute_deliver ..)).trans (mute_endWork _)
  · cases h
    exact .refl s

theorem mute_execVerifyCompletion (h : execVerifyCompletion s = .next t) : Mute s t := by
  unfold execVerifyCompletion at h
  split at h
  · dsimp only at h
    split at h
    · cases h
      exact (mute_elapse ..).trans (mute_endWork _)
    · cases h
      exact ((mute_elapse ..).trans (mute_pushResult _ _ _ (Lane.response_verify ..))).trans (mute_endWork _)
  · cases h
    exact .refl s

theorem mute_execSealCompletion (h : execSealCompletion s = .next t) : Mute s t := by
  unfold execSealCompletion at h
  split at h
  · cases h
    exact ((mute_elapse ..).trans (mute_deliver ..)).trans (mute_endWork _)
  · cases h
    exact .refl s

theorem mute_execSessionExpiry {l : LaneIx} {e : EntryIx} (h : execSessionExpiry l e s = .next t) : Mute s t := by
  unfold execSessionExpiry at h
  split at h
  · split at h
    · cases h
      exact (mute_wait ..).trans (mute_setLane _ l (Lane.response_flag ..))
    · cases h
      exact .refl s
  · cases h
    exact .refl s

theorem mute_setSlot (s : State) (i : SlotIx) (x : Slot) : Mute s (s.setSlot i x) :=
  mute_same (State.setSlot_site ..) (State.setSlot_lanes ..)

theorem mute_setNvSlot (s : State) (i : SlotIx) (x : NvSlot) : Mute s (s.setNvSlot i x) :=
  mute_same (State.setNvSlot_site ..) (State.setNvSlot_lanes ..)

theorem mute_startOp (s : State) (op : Operation) (time : Nat) : Mute s (s.startOp op time) := mute_engine ..

theorem mute_endOp (s : State) : Mute s s.endOp := mute_engine ..

theorem mute_spendPermit (s : State) : Mute s s.spendPermit := mute_engine ..

theorem mute_execUnwrapCompletion (h : execUnwrapCompletion s = .next t) : Mute s t := by
  unfold execUnwrapCompletion at h
  split at h
  · rename_i left load kx _
    have freed := (mute_elapse s left).trans (mute_endWork _)
    generalize s.elapse left = u at h freed
    have begun : ∀ key, Mute s (u.endWork.beginProgram load key) := fun key =>
      ((freed.trans (mute_setSlot ..)).trans (mute_setNvSlot ..)).trans (mute_startOp ..)
    have dropped := (freed.trans (mute_endOp _)).trans (mute_outcome _ .program (.slot load.slot) .kcvMismatch false)
    cases kx with
    | none =>
      dsimp only at h
      split at h
      · cases h
        exact begun _
      · cases h
        exact dropped
    | some k =>
      dsimp only at h
      split at h
      · cases h
        exact begun _
      · cases h
        exact dropped
  · cases h
    exact .refl s

theorem mute_execRotationTimerExpiry (h : execRotationTimerExpiry s = .next t) : Mute s t := by
  unfold execRotationTimerExpiry at h
  split at h
  · dsimp only at h
    have due := mute_wait s s.ring.untilExpiry
    split at h
    · cases h
      exact due.trans (mute_advance _)
    · cases h
      exact (due.trans (mute_ring ..)).trans (mute_flagSite ..)
  · cases h
    exact .refl s

/-! ### Completions of the write engine -/

theorem mute_finishProgram (s : State) (i : SlotIx) (verified : Bool) : Mute s (s.finishProgram i verified) := by
  have ended : Mute s (s.endProgram i) := mute_setNvSlot ..
  have loaded : Mute s (s.programLoaded i).endOp :=
    ((ended.trans (mute_setSlot ..)).trans (mute_outcome ..)).trans (mute_endOp _)
  have stale : Mute s (s.programStale i).endOp :=
    ((ended.trans (mute_retireSlots ..)).trans (mute_outcome ..)).trans (mute_endOp _)
  have failed : Mute s (s.programFailed i).endOp :=
    ((mute_setSlot ..).trans (mute_outcome ..)).trans (mute_endOp _)
  have told : Mute s (if s.inWindow i then (s.programLoaded i).endOp.flagLanes .ringChanged else (s.programLoaded i).endOp) := by
    split
    · exact loaded.trans (mute_flagLanes ..)
    · exact loaded
  unfold State.finishProgram
  split
  · exact failed.trans (mute_proceed _)
  · split
    · exact loaded.trans (mute_proceed _)
    · split
      · refine .trans ?_ (mute_proceed _)
        split
        · exact told.trans (mute_advance _)
        · exact told
      · exact stale.trans (mute_proceed _)

theorem mute_execProgramComplete {verified : Bool} (h : execProgramComplete verified s = .next t) : Mute s t := by
  unfold execProgramComplete at h
  split at h
  · cases h
    exact (mute_wait ..).trans (mute_finishProgram ..)
  · cases h
    exact .refl s

theorem mute_finishErase (s : State) (op : SlotOp) (failed : List SlotIx) : Mute s (s.finishErase op failed) :=
  ((mute_mapSlots ..).trans (mute_mapNvSlots ..)).trans (mute_outcome_proceed ..)

theorem mute_execEraseComplete {failed : List SlotIx} (h : execEraseComplete failed s = .next t) : Mute s t := by
  unfold execEraseComplete at h
  split at h
  · cases h
    exact (mute_wait ..).trans (mute_finishErase ..)
  · cases h
    exact (mute_wait ..).trans (mute_finishErase ..)
  · cases h
    exact .refl s

section
variable (s : State) (v : Bool)

theorem mute_array (a : NvArray) : Mute s { s with array := a } := mute_same rfl rfl

theorem mute_putSettings (r : NvRecord Settings) : Mute s (s.putSettings r) := mute_array ..

theorem mute_putGeneration (r : NvRecord GenRecord) : Mute s (s.putGeneration r) := mute_array ..

theorem mute_putCounter (r : NvRecord Nat) : Mute s (s.putCounter r) := mute_array ..

theorem mute_faultSettings : Mute s (s.faultSettings v) := mute_engine ..

theorem mute_faultGeneration : Mute s (s.faultGeneration v) := mute_engine ..

theorem mute_faultCounter : Mute s (s.faultCounter v) := mute_engine ..

theorem mute_faultRetireMarks : Mute s (s.faultRetireMarks v) := mute_engine ..

theorem mute_protection (p : Protection) : Mute s { s with protection := p } := mute_same rfl rfl

end

section
variable (s : State) (c : SettingsCommand) (r : Settings) {apply : State → State} (happly : ∀ u, Mute u (apply u))

theorem mute_settingsFailed : Mute s (s.settingsFailed c) :=
  ((mute_putSettings ..).trans (mute_faultSettings ..)).trans (mute_outcome_proceed ..)

include happly in
theorem mute_settingsDone : Mute s (s.settingsDone c r apply) :=
  (((mute_putSettings ..).trans (mute_faultSettings ..)).trans (happly _)).trans (mute_outcome_proceed ..)

include happly in
theorem mute_finishSettings (verified : Bool) : Mute s (s.finishSettings c r apply verified) := by
  unfold State.finishSettings
  split
  · exact mute_settingsDone s c r happly
  · exact mute_settingsFailed s c

theorem mute_trimCache : Mute s s.trimCache := mute_cache ..

theorem mute_applyRotation : Mute s (applyRotation r s) := mute_ring ..

theorem mute_applyProtect (a : FixedArea) : Mute s (applyProtect a r s) := mute_protection ..

theorem mute_applyFreeze : Mute s (applyFreeze r s) := mute_protection ..

theorem mute_applySite : Mute s (applySite r s) := mute_same rfl rfl

theorem mute_applyWindow : Mute s (applyWindow r s) :=
  (((mute_ring s _).trans (mute_alignmentCheck _)).trans (mute_trimCache _)).trans (mute_flagLanes ..)

theorem mute_applyGeometry (g : Gen) : Mute s (applyGeometry g r s) := by
  unfold applyGeometry
  refine .trans ?_ (mute_flagLanes ..)
  refine .trans ?_ (mute_mapLanes _ fun x => x.response_loseSessions _)
  exact mute_same rfl rfl

theorem mute_putCell (a : FixedArea) (written : Bool) : Mute s (s.putCell a written) := by
  cases a
  · exact mute_array ..
  · exact mute_array ..

theorem mute_applyLock (a : FixedArea) : Mute s (applyLock a s) := (mute_putCell s a true).trans (mute_protection ..)

theorem mute_applyLanes : Mute s (applyLanes r s) := by
  unfold applyLanes
  refine .trans (mute_mapLanesAt s (f := fun l x =>
    x.switch (s.laneEnable.getLsbD l.val) (r.laneEnable.getLsbD l.val)) fun l x => Lane.response_switch ..) ?_
  exact mute_same rfl rfl

theorem mute_applyCurrent (g : Gen) (h : Nat) : Mute s (applyCurrent g h s) :=
  have checked : Mute s _ := (mute_ring s _).trans (mute_alignmentCheck _)
  (checked.trans (mute_ring ..)).trans (mute_flagLanes ..)

theorem mute_applyCounter (base limit : Nat) : Mute s (applyCounter base limit s) := by
  unfold applyCounter
  split
  · exact (mute_counter s _).trans (mute_flagSite ..)
  · exact mute_counter ..

/-- A settings write completes. -/
theorem mute_of_finishSettings {verified : Bool} (happly : ∀ u, Mute u (apply u))
    (h : Host.Outcome.next (φ := Fault) (ρ := Refusal) ((s.wait s.untilComplete).finishSettings c r apply verified) = .next t) :
    Mute s t := by
  cases h
  exact (mute_wait ..).trans (mute_finishSettings _ c r happly verified)

end

theorem mute_execSetRotationComplete {verified : Bool} (h : execSetRotationComplete verified s = .next t) : Mute s t := by
  unfold execSetRotationComplete at h
  split at h
  · exact mute_of_finishSettings s _ _ (mute_applyRotation · _) h
  · cases h
    exact .refl s

theorem mute_execSetWindowComplete {verified : Bool} (h : execSetWindowComplete verified s = .next t) : Mute s t := by
  unfold execSetWindowComplete at h
  split at h
  · exact mute_of_finishSettings s _ _ (mute_applyWindow · _) h
  · cases h
    exact .refl s

theorem mute_execSetProtectNvComplete {verified : Bool} (h : execSetProtectNvComplete verified s = .next t) : Mute s t := by
  unfold execSetProtectNvComplete at h
  split at h
  · exact mute_of_finishSettings s _ _ (mute_applyProtect · _ _) h
  · cases h
    exact .refl s

theorem mute_execSetFreezeComplete {verified : Bool} (h : execSetFreezeComplete verified s = .next t) : Mute s t := by
  unfold execSetFreezeComplete at h
  split at h
  · exact mute_of_finishSettings s _ _ (mute_applyFreeze · _) h
  · cases h
    exact .refl s

theorem mute_execSetSiteComplete {verified : Bool} (h : execSetSiteComplete verified s = .next t) : Mute s t := by
  unfold execSetSiteComplete at h
  split at h
  · exact mute_of_finishSettings s _ _ (mute_applySite · _) h
  · cases h
    exact .refl s

theorem mute_execSetLanesComplete {verified : Bool} (h : execSetLanesComplete verified s = .next t) : Mute s t := by
  unfold execSetLanesComplete at h
  split at h
  · exact mute_of_finishSettings s _ _ (mute_applyLanes · _) h
  · cases h
    exact .refl s

theorem mute_execSetGeometryComplete {verified : Bool} (h : execSetGeometryComplete verified s = .next t) : Mute s t := by
  unfold execSetGeometryComplete at h
  split at h
  · dsimp only at h
    have due := mute_wait s s.untilComplete
    split at h
    · cases h
      exact ((due.trans (mute_putGeneration ..)).trans (mute_faultGeneration ..)).trans
        (mute_settingsDone _ _ _ (mute_applyGeometry · _ _))
    · cases h
      exact ((due.trans (mute_putGeneration ..)).trans (mute_faultGeneration ..)).trans (mute_settingsFailed ..)
  · cases h
    exact .refl s

theorem mute_execLockAreaComplete {recordVerified cellVerified : Bool}
    (h : execLockAreaComplete recordVerified cellVerified s = .next t) : Mute s t := by
  unfold execLockAreaComplete at h
  split at h
  · dsimp only at h
    have due := mute_wait s s.untilComplete
    split at h
    · cases h
      exact due.trans (mute_settingsFailed ..)
    · split at h
      · cases h
        exact due.trans (mute_settingsDone _ _ _ (mute_applyLock · _))
      · cases h
        exact (due.trans (mute_putSettings ..)).trans (mute_outcome_proceed ..)
  · cases h
    exact .refl s

theorem mute_execSetCurrentComplete {verified : Bool} (h : execSetCurrentComplete verified s = .next t) : Mute s t := by
  unfold execSetCurrentComplete at h
  split at h
  · dsimp only at h
    have due := mute_wait s s.untilComplete
    split at h
    · cases h
      exact (((due.trans (mute_putGeneration ..)).trans (mute_faultGeneration ..)).trans (mute_applyCurrent ..)).trans
        (mute_outcome_proceed ..)
    · cases h
      exact ((due.trans (mute_putGeneration ..)).trans (mute_faultGeneration ..)).trans (mute_outcome_proceed ..)
  · cases h
    exact .refl s

theorem mute_execSetCounterComplete {verified : Bool} (h : execSetCounterComplete verified s = .next t) : Mute s t := by
  unfold execSetCounterComplete at h
  split at h
  · dsimp only at h
    have due := mute_wait s s.untilComplete
    split at h
    · cases h
      exact (((((due.trans (mute_putCounter ..)).trans (mute_faultCounter ..)).trans (mute_applyCounter ..)).trans (mute_report _)).trans (mute_examineLowWater _)).trans (mute_outcome_proceed ..)
    · cases h
      have spoilt := (due.trans (mute_putCounter _ .damaged)).trans (mute_faultCounter _ true)
      exact (((spoilt.trans (mute_counter ..)).trans (mute_report _)).trans (mute_examineLowWater _)).trans (mute_outcome_proceed ..)
  · cases h
    exact .refl s

theorem mute_retryGenRecord (s : State) : Mute s s.retryGenRecord := by
  unfold State.retryGenRecord
  split
  · exact .refl s
  · exact mute_engine ..

theorem mute_execGenRecordComplete {verified : Bool} (h : execGenRecordComplete verified s = .next t) : Mute s t := by
  unfold execGenRecordComplete at h
  split at h
  · dsimp only at h
    have due := (mute_wait s s.untilComplete).trans (mute_endOp _)
    split at h
    · cases h
      exact ((due.trans (mute_putGeneration ..)).trans (mute_faultGeneration ..)).trans (mute_proceed _)
    · have spoilt := due.trans (mute_putGeneration _ .damaged)
      split at h
      · cases h
        exact ((spoilt.trans (mute_faultGeneration ..)).trans (mute_flagSite ..)).trans (mute_proceed _)
      · cases h
        exact (spoilt.trans (mute_retryGenRecord _)).trans (mute_proceed _)
  · cases h
    exact .refl s

theorem mute_execReservationComplete {verified : Bool} (h : execReservationComplete verified s = .next t) : Mute s t := by
  unfold execReservationComplete at h
  split at h
  · dsimp only at h
    have due := (mute_wait s s.untilComplete).trans (mute_endOp _)
    split at h
    · cases h
      refine .trans ?_ ((mute_report _).trans ((mute_examineLowWater _).trans (mute_proceed _)))
      exact ((due.trans (mute_putCounter ..)).trans (mute_faultCounter ..)).trans (mute_counter ..)
    · have spoilt := due.trans (mute_putCounter _ .damaged)
      split at h
      · cases h
        refine .trans ?_ ((mute_flagSite ..).trans ((mute_report _).trans (mute_proceed _)))
        exact (spoilt.trans (mute_faultCounter ..)).trans (mute_counter ..)
      · cases h
        refine .trans ?_ (mute_proceed _)
        exact spoilt.trans (mute_engine ..)
  · cases h
    exact .refl s

theorem mute_dropMarks (s : State) (taken : List SlotIx) : Mute s (s.dropMarks taken) := mute_mapSlots ..

theorem mute_writeMarks (s : State) (taken : List SlotIx) : Mute s (s.writeMarks taken) := mute_mapNvSlots ..

theorem mute_scatterMarks (s : State) (taken : List SlotIx) : Mute s (s.scatterMarks taken) := by
  rw [State.scatterMarks_frame]
  exact mute_same rfl rfl

theorem mute_execRetireMarkComplete {verified : Bool} (h : execRetireMarkComplete verified s = .next t) : Mute s t := by
  unfold execRetireMarkComplete at h
  split at h
  · rename_i taken retry left _
    dsimp only at h
    have due := (mute_wait s s.untilComplete).trans (mute_endOp _)
    split at h
    · cases h
      have written := (due.trans (mute_writeMarks _ taken)).trans (mute_dropMarks _ taken)
      exact (written.trans (mute_faultRetireMarks ..)).trans (mute_proceed _)
    · have scattered := due.trans (mute_scatterMarks _ taken)
      split at h
      · cases h
        have given := (scattered.trans (mute_dropMarks _ taken)).trans (mute_faultRetireMarks _ true)
        exact (given.trans (mute_flagSite ..)).trans (mute_proceed _)
      · cases h
        refine .trans ?_ (mute_proceed _)
        exact scattered.trans (mute_engine ..)
  · cases h
    exact .refl s

theorem mute_execInternalWriteStart (h : execInternalWriteStart s = .next t) : Mute s t := by
  unfold execInternalWriteStart at h
  split at h
  · split at h
    · cases h
      exact mute_startInternal s
    · split at h
      · cases h
        exact (mute_holdActive ..).trans (mute_startInternal _)
      · cases h
        exact .refl s
  · cases h
    exact .refl s

end

end Sys2Proof.Machine

/-! PROOFS. A blinded part answers what the part itself answers: every check of a command and every byte of a response reads only
what blinding leaves as it is (R15). -/

namespace Sys2Proof.Machine

/-! ### What a blinded part shows -/

section
variable (s : State) (i : SlotIx) (l : LaneIx) (p : Port)

@[simp] theorem State.blind_power : s.blind.power = s.power := by unfold State.blind; rfl

@[simp] theorem State.blind_rst : s.blind.rst = s.rst := by unfold State.blind; rfl

@[simp] theorem State.blind_clock : s.blind.clock = s.clock := by unfold State.blind; rfl

@[simp] theorem State.blind_ring : s.blind.ring = s.ring := by unfold State.blind; rfl

@[simp] theorem State.blind_site : s.blind.site = s.site := by unfold State.blind; rfl

@[simp] theorem State.blind_counter : s.blind.counter = s.counter := by unfold State.blind; rfl

@[simp] theorem State.blind_engine : s.blind.engine = s.engine := by unfold State.blind; rfl

@[simp] theorem State.blind_protection : s.blind.protection = s.protection := by unfold State.blind; rfl

@[simp] theorem State.blind_siteCode : s.blind.siteCode = s.siteCode := by unfold State.blind; rfl

@[simp] theorem State.blind_laneEnable : s.blind.laneEnable = s.laneEnable := by unfold State.blind; rfl

@[simp] theorem State.blind_monitor : s.blind.monitor = s.monitor := by unfold State.blind; rfl

@[simp] theorem State.blind_sessionLife : s.blind.sessionLife = s.sessionLife := by unfold State.blind; rfl

@[simp] theorem State.blind_notes : s.blind.notes = s.notes := by unfold State.blind; rfl

@[simp] theorem State.blind_geometry : s.blind.store.geometry = s.store.geometry := by unfold State.blind; rfl

@[simp] theorem State.blind_cache_length : s.blind.cache.length = s.cache.length := by
  unfold State.blind
  exact List.length_map ..

theorem State.slot_blind : s.blind.slot i = { s.slot i with key := 0 } := by
  unfold State.blind State.slot
  simp

theorem State.lane_blind : s.blind.lane l = (s.lane l).blind := by
  unfold State.blind State.lane
  simp

@[simp] theorem State.port_blind : s.blind.port p = s.port p := by
  cases p with
  | lane l =>
    simp only [State.port, State.lane_blind]
    unfold Lane.blind
    rfl
  | site => simp only [State.port, State.blind_site]

@[simp] theorem State.slot_blind_state : (s.blind.slot i).state = (s.slot i).state := by rw [State.slot_blind]

@[simp] theorem State.slot_blind_fields : (s.blind.slot i).fields = (s.slot i).fields := by rw [State.slot_blind]

@[simp] theorem State.slot_blind_markPending : (s.blind.slot i).markPending = (s.slot i).markPending := by
  rw [State.slot_blind]

@[simp] theorem State.slot_blind_generation : (s.blind.slot i).generation = (s.slot i).generation := by
  simp only [Slot.generation, State.slot_blind_fields]

@[simp] theorem State.slot_blind_serves (u : Usage) : (s.blind.slot i).serves u = (s.slot i).serves u := by
  simp only [Slot.serves, Slot.usage, State.slot_blind_fields, State.slot_blind_state]

@[simp] theorem State.blind_areaOf : s.blind.areaOf i = s.areaOf i := by simp only [State.areaOf, State.blind_geometry]

@[simp] theorem State.blind_inRing : s.blind.inRing i = s.inRing i := by simp only [State.inRing, State.blind_areaOf]

@[simp] theorem State.blind_slotPosition : s.blind.slotPosition i = s.slotPosition i := by
  simp only [State.slotPosition, State.blind_ring, State.blind_geometry]

@[simp] theorem State.blind_inWindow : s.blind.inWindow i = s.inWindow i := by
  simp only [State.inWindow, State.blind_ring, State.blind_slotPosition]

@[simp] theorem State.blind_lockedSlot : s.blind.lockedSlot i = s.lockedSlot i := by
  simp only [State.lockedSlot, State.blind_areaOf, State.blind_protection]

@[simp] theorem State.blind_protectedSlot : s.blind.protectedSlot i = s.protectedSlot i := by
  simp only [State.protectedSlot, State.blind_areaOf, State.blind_protection]

theorem State.blind_disarm : s.blind.disarm p = (s.disarm p).blind := by
  cases p with
  | lane l => rfl
  | site =>
    unfold State.disarm State.blind
    rfl

section
variable (x : Lane)

@[simp] theorem Lane.blind_port : x.blind.port = x.port := by unfold Lane.blind; rfl
@[simp] theorem Lane.blind_jobs : x.blind.jobs = x.jobs := by unfold Lane.blind; rfl
@[simp] theorem Lane.blind_results : x.blind.results = x.results := by unfold Lane.blind; rfl
@[simp] theorem Lane.blind_counterWait : x.blind.counterWait = x.counterWait := by unfold Lane.blind; rfl
@[simp] theorem Lane.blind_flags : x.blind.flags = x.flags := by unfold Lane.blind; rfl
@[simp] theorem Lane.blind_enables : x.blind.enables = x.enables := by unfold Lane.blind; rfl

@[simp] theorem Lane.blind_flagsRead : x.blind.flagsRead = x.flagsRead := by
  simp only [Lane.flagsRead, Lane.blind_flags, Lane.blind_results]

@[simp] theorem Lane.blind_openSessions : x.blind.openSessions = x.openSessions := by
  have h : x.blind.sessions = x.sessions.map fun e => { e with session := e.session.map Session.blind } := by
    unfold Lane.blind
    ext i hi
    simp
  simp [Lane.openSessions, h, Vector.toList_map, List.filter_map, Function.comp_def]

end

/-! ### The write engine's checks -/

@[simp] theorem State.blind_retireOutstanding : s.blind.retireOutstanding = s.retireOutstanding := by
  simp [State.retireOutstanding, State.retireSet, State.takenMarks]

@[simp] theorem State.blind_idle : s.blind.idle = s.idle := by
  simp [State.idle, State.requestOutstanding]

@[simp] theorem State.blind_engineCheck : s.blind.engineCheck = s.engineCheck := by
  simp [State.engineCheck]

@[simp] theorem State.blind_loadTarget (a : LoadArgs) : s.blind.loadTarget a = s.loadTarget a := by
  simp [State.loadTarget]

@[simp] theorem State.blind_loadEngineCheck (a : LoadArgs) : s.blind.loadEngineCheck a = s.loadEngineCheck a := by
  simp [State.loadEngineCheck]

@[simp] theorem State.blind_protectionRefusal : s.blind.protectionRefusal i = s.protectionRefusal i := by
  simp [State.protectionRefusal]

@[simp] theorem State.blind_transportSource (a : LoadArgs) (u : Usage) : s.blind.transportSource a u = s.transportSource a u := by
  simp [State.transportSource]

@[simp] theorem State.blind_manifest (a : LoadArgs) : s.blind.manifest a = s.manifest a := by simp [State.manifest]

@[simp] theorem State.blind_checkLoad (a : LoadArgs) : s.blind.checkLoad a = s.checkLoad a := by
  simp [State.checkLoad]

@[simp] theorem State.blind_eraseCheck (op : SlotOp) : s.blind.eraseCheck op = s.eraseCheck op := by
  simp [State.eraseCheck, State.inService]

@[simp] theorem State.blind_erasable (op : SlotOp) : s.blind.erasable op i = s.erasable op i := by
  simp [State.erasable]

@[simp] theorem State.blind_holderOf (g : Gen) : s.blind.holderOf g = s.holderOf g := by simp [State.holderOf]

@[simp] theorem State.blind_settings : s.blind.settings = s.settings := by simp [State.settings]

@[simp] theorem State.blind_windowConflict (back : Nat) : s.blind.windowConflict back = s.windowConflict back := by
  simp [State.windowConflict]

@[simp] theorem State.blind_nextReady : s.blind.nextReady = s.nextReady := by simp [State.nextReady]

@[simp] theorem State.blind_unexamined : s.blind.unexamined p = s.unexamined p := by simp [State.unexamined]

@[simp] theorem State.blind_tooSoon : s.blind.tooSoon = s.tooSoon := by simp [State.tooSoon]

/-! ### The reports -/

@[simp] theorem State.blind_slotReport : s.blind.slotReport i = s.slotReport i := by simp [State.slotReport]

@[simp] theorem State.blind_laneStatus : s.blind.laneStatus l = s.laneStatus l := by
  simp [State.laneStatus, State.lane_blind]

@[simp] theorem State.blind_siteStatus : s.blind.siteStatus = s.siteStatus := by
  simp [State.siteStatus, State.engineByte, State.activeReport, State.heldReport, State.lane_blind]

end

end Sys2Proof.Machine

/-! PROOFS. Every command's rule is discreet: it leaves the ports' responses to the transaction, and answers the blinded part what it
answers the part itself. So no response depends on a key (R15). -/

namespace Sys2Proof.Machine

/-- A rule that touches no response, and answers the same once the keys are gone. -/
structure Discreet (r : State → Reply) : Prop where
  mute : ∀ s, Mute s (r s).1
  same : ∀ s, (r s.blind).2 = (r s).2

/-- An answer does not tell the state that it comes from. -/
theorem reply_same (c : Code) (payload : List Byte) (s t : State) : (reply c payload s).2 = (reply c payload t).2 := rfl

/-! ### Rules of the ports -/

theorem syncRule_discreet (p : Port) (arg : Option Byte × BitVec 16) : Discreet (syncRule p arg) where
  mute s := by
    unfold syncRule
    split
    · have ready : Mute s (s.setPort p { (s.port p).clearCounts with state := .ready }) := mute_setPort s p rfl
      cases p with
      | site => exact ready
      | lane l => exact (ready.trans (mute_discardLane _ l)).trans (mute_setLane _ l rfl)
    · exact mute_flagSite ..
  same s := by
    have h : s.blind.syncAccepted p arg.1 arg.2 = s.syncAccepted p arg.1 arg.2 := by simp [State.syncAccepted]
    simp only [syncRule, h]
    split
    · cases p <;> exact reply_same ..
    · exact reply_same ..

theorem status_discreet (p : Port) : Discreet fun s =>
    match p with
    | .lane l => reply .ok (s.laneStatus l) s
    | .site => reply .ok s.siteStatus s where
  mute s := by cases p <;> exact .refl s
  same s := by cases p <;> simp [reply]

theorem setEnables_discreet (p : Port) (b : Byte) : Discreet fun s =>
    reply .ok ((s.setEnables p b).eventBytes p) (s.setEnables p b) where
  mute s := by
    cases p with
    | lane l => exact mute_setLane s l rfl
    | site => exact mute_of rfl fun _ => rfl
  same s := by cases p <;> simp [reply, State.setEnables, State.eventBytes, State.lane_blind, Lane.flagsRead]

theorem clearFlags_discreet (p : Port) (b : Byte) : Discreet fun s =>
    reply .ok ((s.clearFlags p b).eventBytes p) (s.clearFlags p b) where
  mute s := by
    cases p with
    | lane l => exact mute_setLane s l rfl
    | site => exact mute_of rfl fun _ => rfl
  same s := by cases p <;> simp [reply, State.clearFlags, State.eventBytes, State.lane_blind, Lane.flagsRead]

theorem readCounts_discreet (b : Byte) : Discreet fun s =>
    match portOf b with
    | some p => reply .ok [b, (s.port p).state.byte, (s.port p).checkCount, (s.port p).frameCount, (s.port p).commandCount] s
    | none => refuse .badArgument s where
  mute s := by split <;> exact .refl s
  same s := by split <;> simp [reply, refuse]

theorem clearCounts_discreet (b : Byte) : Discreet fun s =>
    match portOf b with
    | some p => reply .ok [] (s.setPort p (s.port p).clearCounts)
    | none => refuse .badArgument s where
  mute s := by
    split
    · exact mute_setPort s _ rfl
    · exact .refl s
  same s := by split <;> exact reply_same ..

theorem setPortMonitor_discreet (modes threshold mask : Byte) : Discreet fun s =>
    match monitorOf modes threshold mask with
    | some m => reply .ok [modes, threshold, mask] { s with monitor := m }
    | none => refuse .badArgument s where
  mute s := by
    split
    · exact mute_same rfl rfl
    · exact .refl s
  same s := by split <;> exact reply_same ..

theorem resetArm_discreet : Discreet fun s => reply .ok [] { s with site := { s.site with resetArm := true } } where
  mute _ := mute_of rfl fun _ => rfl
  same _ := reply_same ..

theorem reset_discreet (armed : Bool) : Discreet fun s =>
    if armed then reply .ok [] { s with site := { s.site with resetTaken := true } } else refuse .resetNotArmed s where
  mute s := by
    cases armed
    · exact .refl s
    · exact mute_of rfl fun _ => rfl
  same s := by cases armed <;> exact reply_same ..

/-! ### Rules of the lanes -/

theorem submitRule_discreet (l : LaneIx) (payload : List Byte) : Discreet (submitRule l payload) where
  mute s := by
    unfold submitRule
    split
    · exact .refl s
    · split
      · exact mute_countError ..
      · split
        · exact .refl s
        · exact mute_setLane s l rfl
  same s := by
    unfold submitRule
    split
    · exact reply_same ..
    · split
      · exact reply_same ..
      · simp only [State.lane_blind, Lane.blind_jobs, State.blind_clock]
        split <;> exact reply_same ..

theorem fetchRule_discreet (l : LaneIx) : Discreet (fetchRule l) where
  mute s := by
    unfold fetchRule
    split
    · exact .refl s
    · exact mute_setLane s l rfl
  same s := by
    simp only [fetchRule, State.lane_blind, Lane.blind_results]
    split <;> exact reply_same ..

theorem setSessionLife_discreet (b : Byte) : Discreet fun s =>
    let life := clampLife b.toNat
    let past := fun (x : Session) => decide (life * 1000 < elapsed x.opened s.clock.time)
    reply .ok [numByte life] ({ s with sessionLife := life }.mapLanes fun x => x.loseSessions past) where
  mute s :=
    have life : Mute s { s with sessionLife := clampLife b.toNat } := mute_same rfl rfl
    life.trans (mute_mapLanes _ fun x => x.response_loseSessions _)
  same _ := reply_same ..

/-! ### Rules of keys and of the write engine -/

theorem permit_discreet (b : Byte) : Discreet fun s =>
    reply .ok [flagByte (b != 0)] { s with engine := { s.engine with permit := b != 0 } } where
  mute _ := mute_engine ..
  same _ := reply_same ..

theorem loadRule_discreet (a : LoadArgs) : Discreet (loadRule a) where
  mute s := by
    unfold loadRule
    split
    · exact .refl s
    · exact (mute_spendPermit s).trans (mute_startOp ..)
  same s := by
    simp only [loadRule, State.blind_checkLoad, State.blind_ring]
    split <;> exact reply_same ..

theorem acceptErase_discreet (op : SlotOp) (number : Byte) (time : Nat) : Discreet (acceptErase op number time) where
  mute s := ((mute_spendPermit s).trans (mute_beginErase ..)).trans (mute_startOp ..)
  same s := by
    have h : s.blind.erasable op = s.erasable op := funext fun i => s.blind_erasable i op
    simp only [acceptErase, reply, h]

theorem eraseSlotRule_discreet (b : Byte) : Discreet (eraseSlotRule b) where
  mute s := by
    unfold eraseSlotRule
    split
    · exact .refl s
    · split
      · exact .refl s
      · split
        · exact .refl s
        · exact (acceptErase_discreet ..).mute s
  same s := by
    simp only [eraseSlotRule, State.blind_engine, State.blind_eraseCheck]
    split
    · exact reply_same ..
    · split
      · exact reply_same ..
      · split
        · exact reply_same ..
        · exact (acceptErase_discreet ..).same s

theorem eraseBankRule_discreet (b : Byte) : Discreet (eraseBankRule b) where
  mute s := by
    unfold eraseBankRule
    split
    · exact .refl s
    · split
      · exact .refl s
      · split
        · exact .refl s
        · exact (acceptErase_discreet ..).mute s
  same s := by
    simp only [eraseBankRule, State.blind_engine, State.blind_eraseCheck]
    split
    · exact reply_same ..
    · split
      · exact reply_same ..
      · split
        · exact reply_same ..
        · exact (acceptErase_discreet ..).same s

theorem acceptRetire_discreet (i : SlotIx) : Discreet (acceptRetire i) where
  mute s := by
    have retired := (mute_spendPermit s).trans (mute_retireSlots _ (· == i))
    show Mute s (if s.inRing i && s.inWindow i then _ else _)
    split
    · exact retired.trans (mute_flagLanes ..)
    · exact retired
  same s := by simp only [acceptRetire, reply, State.blind_inRing, State.slot_blind_generation]

theorem retireRule_discreet (b : Byte) : Discreet (retireRule b) where
  mute s := by
    unfold retireRule
    split
    · exact .refl s
    · split
      · exact .refl s
      · split
        · exact .refl s
        · split
          · exact .refl s
          · exact (acceptRetire_discreet _).mute s
  same s := by
    simp only [retireRule, State.blind_engine, State.blind_lockedSlot, State.slot_blind_state]
    split
    · exact reply_same ..
    · split
      · exact reply_same ..
      · split
        · exact reply_same ..
        · split
          · exact reply_same ..
          · exact (acceptRetire_discreet _).same s

theorem slotInfo_discreet (b : Byte) : Discreet fun s =>
    match slotIndexOf b with
    | none => refuse .badSlot s
    | some i => reply .ok (s.slotReport i) s where
  mute s := by split <;> exact .refl s
  same s := by
    simp only [State.blind_slotReport]
    split <;> exact reply_same ..

theorem suspendRule_discreet : Discreet suspendRule where
  mute s := by
    unfold suspendRule
    split
    · exact .refl s
    · split
      · exact .refl s
      · exact mute_engine ..
    · split
      · split
        · exact .refl s
        · exact mute_holdActive ..
      · exact .refl s
  same s := by
    simp only [suspendRule, State.blind_engine, State.blind_tooSoon]
    split
    · exact reply_same ..
    · split <;> exact reply_same ..
    · split
      · split <;> exact reply_same ..
      · exact reply_same ..

theorem resumeRule_discreet : Discreet resumeRule where
  mute s := by
    unfold resumeRule
    split
    · split
      · exact mute_engine ..
      · exact .refl s
    · exact .refl s
  same s := by
    simp only [resumeRule, State.blind_engine, State.blind_idle]
    split
    · split <;> exact reply_same ..
    · exact reply_same ..

/-! ### Rules of the ring and of the records -/

theorem advanceRule_discreet : Discreet advanceRule where
  mute s := by
    unfold advanceRule
    split
    · exact .refl s
    · split
      · exact mute_advance s
      · exact .refl s
  same s := by
    simp only [advanceRule, State.advance_ring, State.blind_ring, State.blind_nextReady, State.blind_geometry]
    split
    · exact reply_same ..
    · split <;> exact reply_same ..

theorem cancelRule_discreet : Discreet cancelRule where
  mute s := by
    unfold cancelRule
    split
    · exact mute_ring ..
    · exact .refl s
  same s := by
    simp only [cancelRule, State.blind_ring]
    split <;> exact reply_same ..

theorem setCurrentRule_discreet (w : BitVec 16) : Discreet (setCurrentRule w) where
  mute s := by
    unfold setCurrentRule
    split
    · exact .refl s
    · split
      · exact .refl s
      · split
        · exact .refl s
        · split
          · exact .refl s
          · split
            · exact .refl s
            · exact (mute_spendPermit s).trans (mute_startOp ..)
  same s := by
    simp only [setCurrentRule, State.blind_engine, State.blind_engineCheck, State.blind_ring, State.blind_holderOf,
      State.blind_geometry]
    split
    · exact reply_same ..
    · split
      · exact reply_same ..
      · split
        · exact reply_same ..
        · split
          · exact reply_same ..
          · split <;> exact reply_same ..

theorem setCounterRule_discreet (base : Nat) : Discreet (setCounterRule base) where
  mute s := by
    unfold setCounterRule
    split
    · exact .refl s
    · split
      · exact .refl s
      · split
        · exact .refl s
        · exact mute_same rfl rfl
  same s := by
    simp only [setCounterRule, State.blind_engine, State.blind_engineCheck, State.blind_counter]
    split
    · exact reply_same ..
    · split
      · exact reply_same ..
      · split <;> exact reply_same ..

/-! ### Rules of the settings -/

/-- A settings command whose own checks and values do not depend on a key. -/
theorem settingsRule_discreet (freezes : Bool) {plan : State → SettingsPlan} (hplan : ∀ s : State, plan s.blind = plan s) :
    Discreet (settingsRule freezes plan) where
  mute s := by
    unfold settingsRule
    split
    · exact .refl s
    · split
      · exact .refl s
      · split
        · exact .refl s
        · split
          · exact .refl s
          · exact (mute_spendPermit s).trans (mute_startOp ..)
  same s := by
    simp only [settingsRule, State.blind_engine, State.blind_engineCheck, State.blind_protection, hplan]
    split
    · exact reply_same ..
    · split
      · exact reply_same ..
      · split
        · exact reply_same ..
        · split <;> exact reply_same ..

theorem protectVolatileRule_discreet (area value : Byte) : Discreet (protectVolatileRule area value) where
  mute s := by
    unfold protectVolatileRule
    split
    · exact .refl s
    · split
      · exact .refl s
      · exact mute_protection ..
  same s := by
    simp only [protectVolatileRule, State.blind_protection]
    split
    · exact reply_same ..
    · split <;> exact reply_same ..

theorem protectRule_discreet (arg : Byte × Byte × Byte) : Discreet (protectRule arg) := by
  have nv := settingsRule_discreet true (plan := protectPlan arg.1 arg.2.1) fun s => by simp [protectPlan]
  have volatile := protectVolatileRule_discreet arg.1 arg.2.1
  refine ⟨fun s => ?_, fun s => ?_⟩
  · unfold protectRule
    split
    · exact volatile.mute s
    · split
      · exact nv.mute s
      · exact .refl s
  · unfold protectRule
    split
    · exact volatile.same s
    · split
      · exact nv.same s
      · exact reply_same ..

theorem rotationPlan_blind (n : Nat) (s : State) : rotationPlan n s.blind = rotationPlan n s := by simp [rotationPlan]

theorem windowPlan_blind (back ahead : Byte) (s : State) : windowPlan back ahead s.blind = windowPlan back ahead s := by
  simp [windowPlan]

theorem geometryPlan_blind (head ring : Byte) (c0 : BitVec 16) (s : State) :
    geometryPlan head ring c0 s.blind = geometryPlan head ring c0 s := by
  simp [geometryPlan]

theorem lockPlan_blind (area : Byte) (s : State) : lockPlan area s.blind = lockPlan area s := by simp [lockPlan]

theorem freezePlan_blind (value : Byte) (s : State) : freezePlan value s.blind = freezePlan value s := by simp [freezePlan]

theorem sitePlan_blind (code : BitVec 16) (s : State) : sitePlan code s.blind = sitePlan code s := by simp [sitePlan]

theorem lanesPlan_blind (mask : Byte) (s : State) : lanesPlan mask s.blind = lanesPlan mask s := by simp [lanesPlan]

end Sys2Proof.Machine

/-! PROOFS. The responses of a part and of the blinded part after one command: the commands that touch no response, the start-ups and
losses of power that end every transaction, and the frames on a port (R15). -/

namespace Sys2Proof.Machine

/-- The ports of two states hold the same responses. -/
def SameAnswers (t u : State) : Prop := ∀ q, (t.port q).response = (u.port q).response

/-- No port holds a response. -/
def Unanswered (t : State) : Prop := ∀ q, (t.port q).response = none

section
variable {s t u : State}

theorem Unanswered.same (ht : Unanswered t) (hu : Unanswered u) : SameAnswers t u := fun q => (ht q).trans (hu q).symm

theorem Mute.same (ht : Mute s t) (hu : Mute s.blind u) : SameAnswers t u := fun q => by
  rw [ht.port q, hu.port q, State.port_blind]

/-- A command that touches no response. -/
theorem sameAnswers_of_mute {c : Instr} (ht : exec c s = .next t) (hu : exec c s.blind = .next u)
    (hmute : ∀ {s t : State}, exec c s = .next t → Mute s t) : SameAnswers t u := (hmute ht).same (hmute hu)

end

/-! ### Frames -/

theorem State.response_answer (s : State) (p q : Port) (r : Option Response) :
    ((s.answer p r).port q).response = if q = p then r else (s.port q).response := by
  split
  · rename_i h
    rw [h, State.port_answer_self]
  · rename_i h
    rw [State.answer, State.port_setPort_of_ne h]

/-- Two states that touch no other response answer the same on a port. -/
theorem Mute.sameAnswers_answer {s t u : State} (ht : Mute s t) (hu : Mute s.blind u) (p : Port) {r r' : Option Response}
    (hr : r' = r) : SameAnswers (t.answer p r) (u.answer p r') := fun q => by
  rw [State.response_answer, State.response_answer, hr]
  split
  · rfl
  · exact ht.same hu q

/-- A command whose rule is discreet. -/
theorem command_sameAnswers {α : Type} (p : Port) (syncing : Bool) (payload : List Byte) (args : Option α)
    {rule : α → State → Reply} (h : ∀ a, Discreet (rule a)) (s : State) :
    SameAnswers (s.command p syncing payload args rule) (s.blind.command p syncing payload args rule) := by
  unfold State.command
  rw [State.blind_unexamined]
  split
  · exact (Mute.refl s).sameAnswers_answer (.refl _) p rfl
  · split
    · exact (mute_countError ..).sameAnswers_answer (mute_countError ..) p rfl
    · dsimp only
      rw [State.blind_disarm]
      have good := mute_disarm s p
      have good' : Mute s.blind (s.disarm p).blind := State.blind_disarm s p ▸ mute_disarm s.blind p
      split
      · exact (good.trans (mute_countError ..)).sameAnswers_answer (good'.trans (mute_countError ..)) p rfl
      · rw [State.port_blind]
        split
        · exact good.sameAnswers_answer good' p rfl
        · rename_i a _ _
          exact (good.trans ((h a).mute _)).sameAnswers_answer (good'.trans ((h a).mute _)) p
            (congrArg some ((h a).same _))

/-- A request frame whose rule is discreet. -/
theorem sameAnswers_of_discreet {α : Type} {p : Port} {syncing : Bool} {payload : List Byte} {args : Option α}
    {rule : α → State → Reply} {s t u : State}
    (ht : Host.Outcome.next (φ := Fault) (ρ := Refusal) (s.command p syncing payload args rule) = .next t)
    (hu : Host.Outcome.next (φ := Fault) (ρ := Refusal) (s.blind.command p syncing payload args rule) = .next u)
    (h : ∀ a, Discreet (rule a)) : SameAnswers t u := by
  cases ht
  cases hu
  exact command_sameAnswers p syncing payload args h s

section
variable {s t u : State}

theorem execFrameError_sameAnswers {p : Port} {how : FrameFault} (ht : execFrameError p how s = .next t)
    (hu : execFrameError p how s.blind = .next u) : SameAnswers t u := by
  unfold execFrameError at ht hu
  rw [State.blind_unexamined] at hu
  cases hx : s.unexamined p with
  | some r =>
    rw [hx] at ht hu
    cases ht
    cases hu
    exact (Mute.refl s).sameAnswers_answer (.refl _) p rfl
  | none =>
    rw [hx] at ht hu
    cases ht
    cases hu
    exact (mute_countError ..).sameAnswers_answer (mute_countError ..) p rfl

theorem execCheckFail_sameAnswers {p : Port} (ht : execCheckFail p s = .next t) (hu : execCheckFail p s.blind = .next u) :
    SameAnswers t u := by
  unfold execCheckFail at ht hu
  rw [State.blind_unexamined] at hu
  cases hx : s.unexamined p with
  | some r =>
    rw [hx] at ht hu
    cases ht
    cases hu
    exact (Mute.refl s).sameAnswers_answer (.refl _) p rfl
  | none =>
    rw [hx] at ht hu
    cases ht
    cases hu
    exact (mute_countError ..).sameAnswers_answer (mute_countError ..) p rfl

theorem execUnknownCommand_sameAnswers {p : Port} {code : Byte} (ht : execUnknownCommand p code s = .next t)
    (hu : execUnknownCommand p code s.blind = .next u) : SameAnswers t u := by
  unfold execUnknownCommand at ht hu
  rw [State.blind_unexamined] at hu
  cases hx : s.unexamined p with
  | some r =>
    rw [hx] at ht hu
    cases ht
    cases hu
    exact (Mute.refl s).sameAnswers_answer (.refl _) p rfl
  | none =>
    rw [hx] at ht hu
    cases ht
    cases hu
    exact ((mute_disarm ..).trans (mute_countError ..)).sameAnswers_answer ((mute_disarm ..).trans (mute_countError ..)) p rfl

/-! ### The supply -/

theorem unanswered_unpowered (s : State) : Unanswered s.unpowered := fun q => by
  cases q with
  | lane l =>
    unfold State.unpowered State.port State.lane State.reset
    simp [Lane.initial, PortUnit.initial]
  | site => rfl

theorem unanswered_startUp (s : State) (soft : Bool) : Unanswered (s.startUp soft) := by
  have begun : ∀ b : State, b.lanes = Vector.replicate 4 Lane.initial → b.site.port = PortUnit.initial →
      Unanswered b.alignmentCheck.examineLowWater := fun b hlanes hsite q => by
    rw [((mute_alignmentCheck b).trans (mute_examineLowWater _)).port q]
    cases q with
    | lane l => simp [State.port, State.lane, hlanes, Lane.initial, PortUnit.initial]
    | site => simp [State.port, hsite, PortUnit.initial]
  unfold State.startUp
  extract_lets set ring counter slots base
  exact begun base rfl rfl

/-- A command that ends every transaction of the states that `P` names, and touches no response of any other. -/
theorem sameAnswers_of_ends {P : State → Prop} {c : Instr} (ht : exec c s = .next t) (hu : exec c s.blind = .next u)
    (hP : P s.blind ↔ P s) (h : ∀ {s t : State}, exec c s = .next t → P s ∧ Unanswered t ∨ ¬P s ∧ Mute s t) :
    SameAnswers t u := by
  rcases h ht with ⟨hp, ht'⟩ | ⟨hp, ht'⟩
  · rcases h hu with ⟨-, hu'⟩ | ⟨hn, -⟩
    · exact ht'.same hu'
    · exact absurd (hP.2 hp) hn
  · rcases h hu with ⟨hn, -⟩ | ⟨-, hu'⟩
    · exact absurd (hP.1 hn) hp
    · exact ht'.same hu'

theorem execPowerOn_ends (h : execPowerOn s = .next t) :
    (s.power = .off ∧ s.rst = false) ∧ Unanswered t ∨ ¬(s.power = .off ∧ s.rst = false) ∧ Mute s t := by
  unfold execPowerOn at h
  split at h
  · rename_i hp
    split at h
    · rename_i hr
      cases h
      exact .inr ⟨fun hn => absurd (hr.symm.trans hn.2) (by decide), mute_power ..⟩
    · rename_i hr
      cases h
      exact .inl ⟨⟨hp, Bool.of_not_eq_true hr⟩, unanswered_startUp _ _⟩
  · rename_i hp
    cases h
    exact .inr ⟨fun hn => hp hn.1, .refl s⟩

theorem execPowerLoss_ends (h : execPowerLoss s = .next t) : s.power ≠ .off ∧ Unanswered t ∨ ¬s.power ≠ .off ∧ Mute s t := by
  unfold execPowerLoss at h
  split at h
  · rename_i hp
    cases h
    exact .inr ⟨Classical.not_not.2 hp, .refl s⟩
  · rename_i hp
    cases h
    exact .inl ⟨hp, unanswered_unpowered _⟩

theorem mute_rst (s : State) (x : Bool) : Mute s { s with rst := x } := mute_same rfl rfl

theorem execRstAssert_ends (h : execRstAssert s = .next t) : s.On ∧ Unanswered t ∨ ¬s.On ∧ Mute s t := by
  unfold execRstAssert at h
  split at h
  · rename_i hp
    cases h
    exact .inr ⟨fun hn => hn.1 hp, mute_rst ..⟩
  · rename_i hp
    cases h
    exact .inr ⟨fun hn => hn.2 hp, mute_rst ..⟩
  · rename_i hoff hheld
    cases h
    have silent : ∀ q, ({ s.abandon.unpowered with power := .held, rst := true } : State).port q = s.abandon.unpowered.port q :=
      fun q => by cases q <;> rfl
    exact .inl ⟨⟨hoff, hheld⟩, fun q => (congrArg PortUnit.response (silent q)).trans (unanswered_unpowered _ q)⟩

theorem execRstRelease_ends (h : execRstRelease s = .next t) : s.power = .held ∧ Unanswered t ∨ ¬s.power = .held ∧ Mute s t := by
  unfold execRstRelease at h
  dsimp only at h
  split at h
  · rename_i hp
    cases h
    exact .inl ⟨hp, unanswered_startUp _ _⟩
  · rename_i hp
    cases h
    exact .inr ⟨hp, mute_rst ..⟩

theorem execSoftReset_ends (h : execSoftReset s = .next t) :
    (s.power = .running ∧ s.site.resetTaken) ∧ Unanswered t ∨ ¬(s.power = .running ∧ s.site.resetTaken) ∧ Mute s t := by
  unfold execSoftReset at h
  split at h
  · rename_i hp
    cases h
    exact .inl ⟨hp, unanswered_startUp _ _⟩
  · rename_i hp
    cases h
    exact .inr ⟨hp, .refl s⟩

/-- No response of the next state depends on a key: the commands that end the transactions, the frames on a port, and the
commands that touch no response. -/
theorem exec_sameAnswers {c : Instr} (ht : exec c s = .next t) (hu : exec c s.blind = .next u) : SameAnswers t u := by
  cases c with
  | powerOn => exact sameAnswers_of_ends ht hu (P := fun s => s.power = .off ∧ s.rst = false) (by simp) execPowerOn_ends
  | powerLoss => exact sameAnswers_of_ends ht hu (P := fun s => s.power ≠ .off) (by simp) execPowerLoss_ends
  | rstAssert => exact sameAnswers_of_ends ht hu (P := State.On) (by simp [State.On]) execRstAssert_ends
  | rstRelease => exact sameAnswers_of_ends ht hu (P := fun s => s.power = .held) (by simp) execRstRelease_ends
  | softReset =>
    exact sameAnswers_of_ends ht hu (P := fun s => s.power = .running ∧ s.site.resetTaken) (by simp) execSoftReset_ends
  | startupEnd => exact sameAnswers_of_mute ht hu mute_execStartupEnd
  | wplChange high =>
    cases ht
    cases hu
    exact (mute_protection ..).same (mute_protection ..)
  | frameError p how => exact execFrameError_sameAnswers ht hu
  | checkFail p => exact execCheckFail_sameAnswers ht hu
  | unknownCommand p code => exact execUnknownCommand_sameAnswers (code := code) ht hu
  | sync p payload => exact sameAnswers_of_discreet ht hu (syncRule_discreet p)
  | status p payload => exact sameAnswers_of_discreet ht hu (fun _ => status_discreet p)
  | setEvents p payload => exact sameAnswers_of_discreet ht hu (setEnables_discreet p)
  | ackEvents p payload => exact sameAnswers_of_discreet ht hu (clearFlags_discreet p)
  | submit l payload => exact sameAnswers_of_discreet ht hu (submitRule_discreet l)
  | fetch l payload => exact sameAnswers_of_discreet ht hu (fun _ => fetchRule_discreet l)
  | jobLapse l place => exact sameAnswers_of_mute ht hu mute_execJobLapse
  | grant => exact sameAnswers_of_mute ht hu mute_execGrant
  | answerCompletion => exact sameAnswers_of_mute ht hu mute_execAnswerCompletion
  | verifyCompletion => exact sameAnswers_of_mute ht hu mute_execVerifyCompletion
  | sealCompletion => exact sameAnswers_of_mute ht hu mute_execSealCompletion
  | unwrapCompletion => exact sameAnswers_of_mute ht hu mute_execUnwrapCompletion
  | sessionExpiry l e => exact sameAnswers_of_mute ht hu mute_execSessionExpiry
  | permit payload => exact sameAnswers_of_discreet ht hu permit_discreet
  | load payload => exact sameAnswers_of_discreet ht hu loadRule_discreet
  | eraseSlot payload => exact sameAnswers_of_discreet ht hu eraseSlotRule_discreet
  | eraseBank payload => exact sameAnswers_of_discreet ht hu eraseBankRule_discreet
  | retire payload => exact sameAnswers_of_discreet ht hu retireRule_discreet
  | slotInfo payload => exact sameAnswers_of_discreet ht hu slotInfo_discreet
  | suspend payload => exact sameAnswers_of_discreet ht hu (fun _ => suspendRule_discreet)
  | resume payload => exact sameAnswers_of_discreet ht hu (fun _ => resumeRule_discreet)
  | advance payload => exact sameAnswers_of_discreet ht hu (fun _ => advanceRule_discreet)
  | rotPulseEnd =>
    cases ht
    cases hu
    exact (mute_wait ..).same (mute_wait ..)
  | cancelRotation payload => exact sameAnswers_of_discreet ht hu (fun _ => cancelRule_discreet)
  | rotationTimerExpiry => exact sameAnswers_of_mute ht hu mute_execRotationTimerExpiry
  | setRotation payload =>
    exact sameAnswers_of_discreet ht hu (fun n => settingsRule_discreet false (rotationPlan_blind n))
  | setWindow payload =>
    exact sameAnswers_of_discreet ht hu (fun a => settingsRule_discreet false (windowPlan_blind a.1 a.2))
  | setGeometry payload =>
    exact sameAnswers_of_discreet ht hu (fun a => settingsRule_discreet true (geometryPlan_blind a.1 a.2.1 a.2.2))
  | setCurrent payload => exact sameAnswers_of_discreet ht hu setCurrentRule_discreet
  | setCounter payload => exact sameAnswers_of_discreet ht hu setCounterRule_discreet
  | setSessionLife payload => exact sameAnswers_of_discreet ht hu setSessionLife_discreet
  | setProtectVolatile payload => exact sameAnswers_of_discreet ht hu protectRule_discreet
  | setProtectNv payload => exact sameAnswers_of_discreet ht hu protectRule_discreet
  | lockArea payload => exact sameAnswers_of_discreet ht hu (fun b => settingsRule_discreet true (lockPlan_blind b))
  | setFreeze payload => exact sameAnswers_of_discreet ht hu (fun b => settingsRule_discreet true (freezePlan_blind b))
  | setSite payload => exact sameAnswers_of_discreet ht hu (fun w => settingsRule_discreet true (sitePlan_blind w))
  | setLanes payload => exact sameAnswers_of_discreet ht hu (fun b => settingsRule_discreet true (lanesPlan_blind b))
  | setPortMonitor payload => exact sameAnswers_of_discreet ht hu (fun a => setPortMonitor_discreet a.1 a.2.1 a.2.2)
  | readCounts payload => exact sameAnswers_of_discreet ht hu readCounts_discreet
  | clearCounts payload => exact sameAnswers_of_discreet ht hu clearCounts_discreet
  | resetArm payload => exact sameAnswers_of_discreet ht hu (fun _ => resetArm_discreet)
  | reset payload =>
    change execReset payload s.blind = .next u at hu
    unfold execReset at hu
    rw [State.blind_site] at hu
    exact sameAnswers_of_discreet ht hu (fun _ => reset_discreet s.site.resetArm)
  | programComplete verified => exact sameAnswers_of_mute ht hu mute_execProgramComplete
  | eraseComplete failed => exact sameAnswers_of_mute ht hu mute_execEraseComplete
  | setRotationComplete verified => exact sameAnswers_of_mute ht hu mute_execSetRotationComplete
  | setWindowComplete verified => exact sameAnswers_of_mute ht hu mute_execSetWindowComplete
  | setGeometryComplete verified => exact sameAnswers_of_mute ht hu mute_execSetGeometryComplete
  | setProtectNvComplete verified => exact sameAnswers_of_mute ht hu mute_execSetProtectNvComplete
  | lockAreaComplete recordVerified cellVerified => exact sameAnswers_of_mute ht hu mute_execLockAreaComplete
  | setFreezeComplete verified => exact sameAnswers_of_mute ht hu mute_execSetFreezeComplete
  | setSiteComplete verified => exact sameAnswers_of_mute ht hu mute_execSetSiteComplete
  | setLanesComplete verified => exact sameAnswers_of_mute ht hu mute_execSetLanesComplete
  | setCurrentComplete verified => exact sameAnswers_of_mute ht hu mute_execSetCurrentComplete
  | setCounterComplete verified => exact sameAnswers_of_mute ht hu mute_execSetCounterComplete
  | genRecordComplete verified => exact sameAnswers_of_mute ht hu mute_execGenRecordComplete
  | reservationComplete verified => exact sameAnswers_of_mute ht hu mute_execReservationComplete
  | retireMarkComplete verified => exact sameAnswers_of_mute ht hu mute_execRetireMarkComplete
  | internalWriteStart => exact sameAnswers_of_mute ht hu mute_execInternalWriteStart
  | arrayAtRest =>
    cases ht
    cases hu
    exact (mute_wait ..).same (mute_wait ..)

end

/-- Settles O12: a command's response is decided by what the blinded part shows as well. -/
theorem responsesDoNotDependOnKeys : Obligations.ResponsesDoNotDependOnKeys := fun _ _ _ _ p ht hu =>
  exec_sameAnswers ht hu p

end Sys2Proof.Machine
